-- ==== Sys2Proof/Word.lean ====
section
/-! DEFINITION. The word types of ZRE: the 8-bit byte, the 32-bit bus word, the 26-bit bus address (00_scope.md R8), and byte strings (R10). -/

namespace Sys2Proof

/-- One byte of RAM or of a string (00_scope.md R10). -/
abbrev Byte := BitVec 8

/-- A host-port data word, BUS_DATA_WIDTH = 32 (00_scope.md R8). -/
abbrev Word := BitVec 32

/-- A host-port byte address, BUS_ADDR_WIDTH = 26 (00_scope.md R8, 20_memory.md R60). -/
abbrev Addr := BitVec 26

/-- A string is a finite sequence of bytes (00_scope.md R10). -/
abbrev Str := List Byte

end Sys2Proof
end

