-- ==== Sys2Proof/Syntax.lean ====
section
/-! DEFINITION. The commands of ZRE: one constructor per row of spec/opcode_table.json (30_encoding.md R93). CMD32 has no register and no immediate fields (R91), so no constructor carries an operand. -/

namespace Sys2Proof

/-- A legal command (30_encoding.md R93, R95). -/
inductive Instr where
  /-- OP 0x00, 40_command_protocol.md R118. -/
  | nop
  /-- OP 0x01, 46_encode_pipeline.md R260. -/
  | encode
  /-- OP 0x02, 42_row_packer.md R150. -/
  | pack
  /-- OP 0x03, 43_rle_compressor.md R180. -/
  | compress
  /-- OP 0x04, 44_binary_framer.md R230. -/
  | frameB64
  /-- OP 0x05, 44_binary_framer.md R231. -/
  | frameZ64
  /-- OP 0x06, 44_binary_framer.md R232. -/
  | base64
  /-- OP 0x07, 45_crc16.md R250. -/
  | crc16
  deriving DecidableEq, Repr

end Sys2Proof
end

