-- ==== Sys2Proof/WellFormed.lean ====
section
/-! DEFINITION. Well-formedness. A command has no operand, so every term of `Instr` is well formed; the checks are on the command WORD, whose fields are OP and RSV (30_encoding.md R90). -/

namespace Sys2Proof

/-- Field OP, bits [7:0] of a command word (30_encoding.md R90). -/
def cmdOp (w : Word) : Byte := w.extractLsb' 0 8

/-- Field RSV, bits [31:8] of a command word (30_encoding.md R90). -/
def cmdRsv (w : Word) : BitVec 24 := w.extractLsb' 8 24

/-- RSV "must be 0" (30_encoding.md R90). -/
def WellFormed.rsvZero (w : Word) : Bool := cmdRsv w == 0

/-- OP is one of the eight opcodes 0x00 to 0x07 (30_encoding.md R93, R94). -/
def WellFormed.opDefined (w : Word) : Bool := (cmdOp w).toNat < 8

/-- A legal command word: not one of R94's illegal encodings. -/
def WellFormed.word (w : Word) : Bool := WellFormed.rsvZero w && WellFormed.opDefined w

/-- A command has no field that could be out of range (30_encoding.md R91). -/
def WellFormed.instr : Instr → Bool
  | .nop => true
  | .encode => true
  | .pack => true
  | .compress => true
  | .frameB64 => true
  | .frameZ64 => true
  | .base64 => true
  | .crc16 => true

end Sys2Proof
end

