-- ==== Sys2Proof/Decode.lean ====
section
/-! DEFINITION. Decoding a command word (30_encoding.md R95), total on every 32-bit word, and the encoder from the same opcode map (R93). -/

namespace Sys2Proof

/-- Why a word is an illegal command (30_encoding.md R94). -/
inductive IllegalWhy where
  /-- RSV != 0, whatever OP is. -/
  | reservedBits
  /-- OP in 0x08..0xFF. -/
  | reservedOpcode
  deriving DecidableEq, Repr

/-- R95's result type: Command or Illegal. -/
inductive Decoded where
  | command (i : Instr)
  | illegal (why : IllegalWhy)
  deriving DecidableEq, Repr

/-- The opcode case of 30_encoding.md R95. -/
def decodeOp (op : Byte) : Decoded :=
  match op.toNat with
  | 0 => .command .nop
  | 1 => .command .encode
  | 2 => .command .pack
  | 3 => .command .compress
  | 4 => .command .frameB64
  | 5 => .command .frameZ64
  | 6 => .command .base64
  | 7 => .command .crc16
  | _ => .illegal .reservedOpcode

/-- The decode function of 30_encoding.md R95. -/
def decode (w : Word) : Decoded :=
  if cmdRsv w ≠ 0 then .illegal .reservedBits else decodeOp (cmdOp w)

/-- The command word of four bytes in host-port order, least significant first (20_memory.md R65, 30_encoding.md R90). -/
def decodeBytes (b0 b1 b2 b3 : Byte) : Decoded := decode (b3 ++ b2 ++ b1 ++ b0)

/-- The opcode map of 30_encoding.md R93. -/
def opcode : Instr → Byte
  | .nop => 0x00
  | .encode => 0x01
  | .pack => 0x02
  | .compress => 0x03
  | .frameB64 => 0x04
  | .frameZ64 => 0x05
  | .base64 => 0x06
  | .crc16 => 0x07

/-- The CMD32 word of a command: OP = its opcode, RSV = 0 (30_encoding.md R90, R93). -/
def encode (i : Instr) : Word := (0 : BitVec 24) ++ opcode i

/-- The command of a decode, none for an illegal word. -/
def Decoded.instr? : Decoded → Option Instr
  | .command i => some i
  | .illegal _ => none

/-- What the decoder reads from a command whose table bits are `w`: the four bytes of the word, least significant
first, with every bit at or above `nbits` zero. -/
def decodeTableWord (nbits w : Nat) : Option Instr :=
  let v := w % 2 ^ nbits
  (decodeBytes (BitVec.ofNat 8 v) (BitVec.ofNat 8 (v / 2 ^ 8)) (BitVec.ofNat 8 (v / 2 ^ 16))
    (BitVec.ofNat 8 (v / 2 ^ 24))).instr?

end Sys2Proof
end

