-- ==== Sys2Proof/Config.lean ====
section
/-! DEFINITION. What an implementation of ZRE fixes (the OPEN parameters of 00_scope.md R8) and the free values ("any value", 00_scope.md R13). No opaque constant here has a body: nothing in Lean can prove a value of one. -/

namespace Sys2Proof

/-- What the DEFLATE engine answers to one request (44_binary_framer.md R210). `noAnswer` is the engine that never
answers, whose liveness the spec assumes but does not guarantee (93_implementation_defined.md I16). -/
inductive DeflateAnswer where
  | bytes (b : Str)
  | failure
  | noAnswer
  deriving DecidableEq, Repr, Inhabited

/-- The container format named by P_DEFLATE_WRAP (00_scope.md R8). -/
inductive DeflateWrap where
  | zlib
  | raw
  deriving DecidableEq, Repr, Inhabited

/-- P_IN_SIZE in words, less one: any of 2^22 values (OPEN, 00_scope.md R8). Log 1. -/
opaque Config.inWords : Fin 4194304

/-- P_OUT_SIZE in words, less four: any of 2^22 - 3 values (OPEN, 00_scope.md R8). Log 1. -/
opaque Config.outWords : Fin 4194301

/-- P_IN_SIZE: a multiple of 4 from 4 to 16 MiB (00_scope.md R8). -/
def Config.pInSize : Nat := 4 * (Config.inWords.val + 1)

/-- P_OUT_SIZE: a multiple of 4 from 16 to 16 MiB (00_scope.md R8). -/
def Config.pOutSize : Nat := 4 * (Config.outWords.val + 4)

/-- P_DEFLATE (OPEN, 00_scope.md R8, 44_binary_framer.md R210), for every request a state's engine table does not pin. Log 2. -/
opaque Config.deflate : Str → DeflateAnswer

/-- P_DEFLATE_WRAP (OPEN, 00_scope.md R8). -/
opaque Config.deflateWrap : DeflateWrap

/-- The standard decompressor for a container (44_binary_framer.md R213); the DEFLATE format itself is out of scope (00_scope.md R6). -/
opaque Config.inflate : DeflateWrap → Str → Option Str

/-- A free byte, by draw and RAM offset: what a RAM byte holds where the spec says "any value" (70_reset_and_hazards.md R311). Log 7. -/
opaque Config.freeByte : Nat → Nat → Byte

/-- A free word, by draw: what a host read returns where the spec says "any value" (10_state.md R44). Log 8. -/
opaque Config.freeWord : Nat → Word

/-- A free number, by draw and index, for the hidden working state (93_implementation_defined.md I13). Log 10. -/
opaque Config.freeNat : Nat → Nat → Nat

/-- A free byte string, by draw and index, for the hidden working state (93_implementation_defined.md I13). Log 10. -/
opaque Config.freeStr : Nat → Nat → Str

end Sys2Proof
end

