-- ==== Sys2Proof/Machine/State.lean ====
section
/-! DEFINITION. The state of ZRE as plain data (10_state.md), the host's accesses and the other inputs a step reads, and the state after reset (R50). -/

namespace Sys2Proof.Machine

/-- The sequencer phase (10_state.md R45). STATUS.BUSY = 1 exactly when it is `busy`. -/
inductive Phase where
  | idle
  | busy
  deriving DecidableEq, Repr

/-- The error codes STATUS.ERRCODE can hold (60_exceptions.md R281); codes 8 to 15 are never produced. Log 18. -/
inductive ErrCode where
  | ok
  | invalidInput
  | invalidEncoding
  | unsupportedEncodingKind
  | illegalCommand
  | degenerateRaster
  | deflateError
  | outputOverflow
  deriving DecidableEq, Repr

/-- The encoding kind in CONFIG.ENC (10_state.md R30). -/
inductive EncKind where
  | hexCompressed
  | base64
  | base64Deflate
  | fourth
  deriving DecidableEq, Repr

/-- A RAM (20_memory.md R63, R64): the bytes it is known to hold, as (offset, byte) pairs. An unlisted offset holds no
value of the model's; `draw` names the free values that reading one gives ("any value", 70_reset_and_hazards.md R311). Log 7. -/
structure Memory where
  cells : List Host.Cell
  draw : Nat
  deriving DecidableEq, Repr

/-- The canonical form: offsets strictly rising. An unlisted offset holds no value, so no entry can equal what one holds. Log 7. -/
abbrev Memory.wf (m : Memory) : Prop := m.cells.Pairwise fun a b => a.1 < b.1

/-- A RAM of which nothing is known (70_reset_and_hazards.md R311 "any value"). -/
def Memory.unknown (draw : Nat) : Memory := { cells := [], draw := draw }

/-- U2's working state (10_state.md R46). -/
structure PackUnit where
  acc : Byte
  nbits : Nat
  x : BitVec 16
  y : BitVec 16
  deriving DecidableEq, Repr

/-- U3's working state (10_state.md R47). -/
structure RunUnit where
  aux : Byte
  counter : Nat
  seed : Bool
  line : Str
  prev : Str
  prevValid : Bool
  deriving DecidableEq, Repr

/-- The working state of U4, U5 and U6 (10_state.md R48), less the outstanding DEFLATE request, which is `State.deflateReq`. -/
structure FrameUnit where
  group : Str
  crcReg : BitVec 16
  nibble : Option (BitVec 4)
  deriving DecidableEq, Repr

/-- The hidden working state of U1 to U6 (10_state.md R46 to R48). -/
structure Work where
  pack : PackUnit
  run : RunUnit
  frame : FrameUnit
  deriving DecidableEq, Repr

/-- The hidden working state between commands and after a reset: any value within the widths of 10_state.md R46 to R48
(R50, 93_implementation_defined.md I13). Log 10. -/
def Work.free (d : Nat) : Work :=
  { pack := { acc := BitVec.ofNat 8 (Config.freeNat d 0)
              nbits := Config.freeNat d 1 % 9
              x := BitVec.ofNat 16 (Config.freeNat d 2)
              y := BitVec.ofNat 16 (Config.freeNat d 3) }
    run := { aux := BitVec.ofNat 8 (Config.freeNat d 4)
             counter := Config.freeNat d 5 % 16385
             seed := Config.freeNat d 6 % 2 == 1
             line := (Config.freeStr d 0).take 32768
             prev := (Config.freeStr d 1).take 32768
             prevValid := Config.freeNat d 7 % 2 == 1 }
    frame := { group := (Config.freeStr d 2).take 3
               crcReg := BitVec.ofNat 16 (Config.freeNat d 8)
               nibble := if Config.freeNat d 9 % 2 = 1 then some (BitVec.ofNat 4 (Config.freeNat d 10)) else none } }

/-- The width of a host access (20_memory.md R66, R67). -/
inductive Width where
  | w8
  | w16
  | w32
  deriving DecidableEq, Repr

/-- One host access (20_memory.md R60, 30_encoding.md R101). A narrow write carries its value in the low bits. -/
inductive Access where
  | read (w : Width) (addr : Addr)
  | write (w : Width) (addr : Addr) (value : Word)
  deriving DecidableEq, Repr

/-- What the host port answered to the last access (60_exceptions.md R299, 20_memory.md R62). Log 11. -/
inductive BusReply where
  | nothing
  | done
  | data (v : Word)
  | error
  deriving DecidableEq, Repr

/-- One pending input: a host access, a turn of the sequencer, or a level driven on `rst_n` (00_scope.md R15,
70_reset_and_hazards.md R310). Log 5. -/
inductive Event where
  | host (a : Access)
  | sequencer
  | resetPin (level : Bool)
  deriving DecidableEq, Repr

/-- The state of one ZRE instance. Each field's rule and reset value stand in INVENTORY.md. -/
structure State where
  /-- CTRL.IRQ_EN (R25). -/
  irqEn : Bool
  /-- CMD, the last accepted command word (R27, R45). -/
  cmd : Word
  /-- The sequencer phase, mirrored by STATUS.BUSY (R45). -/
  phase : Phase
  /-- STATUS.DONE (R28). -/
  done : Bool
  /-- STATUS.ERR (R28). -/
  err : Bool
  /-- STATUS.WDROP (R28, R43). -/
  wdrop : Bool
  /-- STATUS.ERRCODE (R28). -/
  errCode : ErrCode
  /-- CONFIG.ENC (R30). -/
  enc : EncKind
  /-- CONFIG.THRESHOLD (R31). -/
  threshold : Byte
  /-- WIDTH[15:0] (R33). -/
  width : BitVec 16
  /-- HEIGHT[15:0] (R34). -/
  height : BitVec 16
  /-- IN_LEN[24:0] (R35). -/
  inLen : BitVec 25
  /-- BYTES_PER_ROW (R36). -/
  bytesPerRow : Word
  /-- TOTAL_BYTES (R37). -/
  totalBytes : Word
  /-- OUT_LEN (R38). -/
  outLen : Word
  /-- CRC[15:0] (R39). -/
  crc : BitVec 16
  /-- ERR_INFO (R40). -/
  errInfo : Word
  /-- IN_SIZE, the parameter P_IN_SIZE of this instance (R41). Log 1. -/
  inSize : Word
  /-- OUT_SIZE, the parameter P_OUT_SIZE of this instance (R41). Log 1. -/
  outSize : Word
  /-- IN RAM (20_memory.md R63). -/
  inRam : Memory
  /-- OUT RAM (20_memory.md R64). -/
  outRam : Memory
  /-- The hidden working state of the units (R46 to R48). Log 10. -/
  work : Work
  /-- The outstanding DEFLATE request (R48). -/
  deflateReq : Option Str
  /-- The level of `rst_n` (60_exceptions.md R299). Log 12. -/
  rstN : Bool
  /-- The part of P_DEFLATE that this state pins; no step changes it. Log 2. -/
  engine : List (Str × DeflateAnswer)
  /-- The host port's answer to the last access. Log 11. -/
  reply : BusReply
  /-- The pending inputs, the next first. Log 5. -/
  inputs : List Event
  /-- How many free values have been drawn. Log 16. -/
  draws : Nat
  deriving DecidableEq, Repr

/-- The reasons a step can stop the machine: none. A command error is a completion outcome (60_exceptions.md R280) and
a bus error an answer on the port (R292); neither stops ZRE. -/
inductive Fault where
  deriving DecidableEq, Repr

/-- The reasons a step is refused. -/
inductive Refusal where
  /-- Raised by an arm of `exec` whose command has no meaning yet. Safe: no next state follows. No arm raises it. -/
  | notModelled (mnemonic : String)
  deriving DecidableEq, Repr

/-- The state right after the power-on reset (10_state.md R50, 70_reset_and_hazards.md R310, R311, R314). -/
def State.reset : State :=
  { irqEn := false
    cmd := 0
    phase := .idle
    done := false
    err := false
    wdrop := false
    errCode := .ok
    enc := .hexCompressed
    threshold := 0x80
    width := 0
    height := 0
    inLen := 0
    bytesPerRow := 0
    totalBytes := 0
    outLen := 0
    crc := 0
    errInfo := 0
    inSize := BitVec.ofNat 32 Config.pInSize
    outSize := BitVec.ofNat 32 Config.pOutSize
    inRam := Memory.unknown 1
    outRam := Memory.unknown 2
    work := Work.free 0
    deflateReq := none
    rstN := true
    engine := []
    reply := .nothing
    inputs := []
    draws := 3 }

end Sys2Proof.Machine
end

