-- ==== Sys2Proof/Machine/Flags.lean ====
section
/-! DEFINITION. The bits and codes of the status, control and configuration registers (10_state.md R25 to R32), and the interrupt output (60_exceptions.md R293). -/

namespace Sys2Proof.Machine

/-- STATUS.BUSY, the mirror of the phase (10_state.md R45). -/
def State.busy (s : State) : Bool := s.phase == .busy

/-- The numeric error codes (60_exceptions.md R281). -/
def ErrCode.toNat : ErrCode → Nat
  | .ok => 0
  | .invalidInput => 1
  | .invalidEncoding => 2
  | .unsupportedEncodingKind => 3
  | .illegalCommand => 4
  | .degenerateRaster => 5
  | .deflateError => 6
  | .outputOverflow => 7

/-- The codes of CONFIG.ENC (10_state.md R30). -/
def EncKind.toNat : EncKind → Nat
  | .hexCompressed => 0
  | .base64 => 1
  | .base64Deflate => 2
  | .fourth => 3

/-- The encoding kind of two bits (10_state.md R30). -/
def EncKind.ofBits (b : BitVec 2) : EncKind :=
  match b.toNat with
  | 0 => .hexCompressed
  | 1 => .base64
  | 2 => .base64Deflate
  | _ => .fourth

/-- What a host read of STATUS returns (10_state.md R28). -/
def State.statusWord (s : State) : Word :=
  BitVec.ofNat 32
    (s.busy.toNat + 2 * s.done.toNat + 4 * s.err.toNat + 8 * s.wdrop.toNat + 256 * s.errCode.toNat)

/-- What a host read of CTRL returns (10_state.md R26). -/
def State.ctrlWord (s : State) : Word := BitVec.ofNat 32 s.irqEn.toNat

/-- What a host read of CONFIG returns (10_state.md R32). -/
def State.configWord (s : State) : Word := (s.threshold.setWidth 32 <<< 8) ||| BitVec.ofNat 32 s.enc.toNat

/-- A host write of STATUS: a written 1 clears DONE, ERR or WDROP (10_state.md R29). -/
def State.clearStatus (s : State) (v : Word) : State :=
  { s with done := s.done && !v.getLsbD 1, err := s.err && !v.getLsbD 2, wdrop := s.wdrop && !v.getLsbD 3 }

/-- A host write of CONFIG, when it is not dropped (10_state.md R30 to R32). -/
def State.writeConfig (s : State) (v : Word) : State :=
  { s with enc := EncKind.ofBits (v.extractLsb' 0 2), threshold := v.extractLsb' 8 8 }

/-- The interrupt output (60_exceptions.md R293). -/
def State.irq (s : State) : Bool := s.irqEn && s.done

end Sys2Proof.Machine
end

