-- ==== Sys2Proof/Machine/Bits.lean ====
section
/-! DEFINITION. Number and byte helpers of 00_scope.md R9 and R10: rounding up, saturation, hexadecimal spelling, little-endian bytes, ASCII codes. -/

namespace Sys2Proof.Machine

/-- `ceil_div(a, b)` (00_scope.md R9). -/
def ceilDiv (a b : Nat) : Nat := (a + b - 1) / b

/-- `sat32(v) = min(v, 0xFFFFFFFF)` (42_row_packer.md R150). -/
def sat32 (v : Nat) : Word := BitVec.ofNat 32 (min v 0xFFFFFFFF)

/-- Newline, 0x0A (00_scope.md R10). -/
def newline : Byte := 0x0A

/-- `':'` (00_scope.md R10). -/
def colon : Byte := 0x3A

/-- `','` (00_scope.md R10). -/
def comma : Byte := 0x2C

/-- `'!'` (00_scope.md R10). -/
def bang : Byte := 0x21

/-- The digits `0123456789ABCDEF` (00_scope.md R10); `v` below 16. -/
def hexDigit (v : Nat) : Byte := BitVec.ofNat 8 (if v < 10 then 0x30 + v else 0x41 + (v - 10))

/-- `hexU(v, n)`, the n-digit uppercase hexadecimal spelling of v (00_scope.md R10). -/
def hexU (v : Nat) : Nat → Str
  | 0 => []
  | n + 1 => hexU (v / 16) n ++ [hexDigit (v % 16)]

/-- The `n` low bytes of a word, least significant first (20_memory.md R65). -/
def bytesOfWord (v : Word) : Nat → Str
  | 0 => []
  | n + 1 => v.extractLsb' 0 8 :: bytesOfWord (v >>> 8) n

/-- The word of little-endian bytes (20_memory.md R65). -/
def wordOfBytes : Str → Word
  | [] => 0
  | b :: bs => b.setWidth 32 ||| (wordOfBytes bs <<< 8)

end Sys2Proof.Machine
end

