-- ==== Sys2Proof/Machine/Ops.lean ====
section
/-! DEFINITION. The named operations over the RAMs and registers: RAM bytes, OUT placement, the completion step's effects, the error completion (ZRE's only "exception", 60_exceptions.md R280, R290) and the resets. There is no return operation (R296). -/

namespace Sys2Proof.Machine

/-! ### RAM bytes -/

/-- The byte a RAM is known to hold at an offset, if any. -/
def Memory.held (m : Memory) (a : Nat) : Option Byte := m.cells.lookup a

/-- One byte of a RAM; where nothing is known of it, a free value, the same at every read until the RAM changes (20_memory.md R67). Log 7. -/
def Memory.read (m : Memory) (a : Nat) : Byte := (m.held a).getD (Config.freeByte m.draw a)

/-- Put one byte into a rising list of cells. -/
def insertCell (a : Nat) (v : Byte) : List Host.Cell → List Host.Cell
  | [] => [(a, v)]
  | c :: cs => if a < c.1 then (a, v) :: c :: cs else if a = c.1 then (a, v) :: cs else c :: insertCell a v cs

/-- Write one byte of a RAM. -/
def Memory.write (m : Memory) (a : Nat) (v : Byte) : Memory := { m with cells := insertCell a v m.cells }

/-- Write bytes at rising offsets (20_memory.md R65). -/
def Memory.writeBytes (m : Memory) (a : Nat) : Str → Memory
  | [] => m
  | b :: bs => (m.write a b).writeBytes (a + 1) bs

/-- `n` bytes of a RAM at rising offsets. -/
def Memory.readBytes (m : Memory) (a : Nat) : Nat → Str
  | 0 => []
  | n + 1 => m.read a :: m.readBytes (a + 1) n

/-- The cells of a string placed at an offset. -/
def cellsFrom (a : Nat) : Str → List Host.Cell
  | [] => []
  | b :: bs => (a, b) :: cellsFrom (a + 1) bs

/-- A RAM holding a string from offset 0, and any value beyond it (20_memory.md R74). -/
def Memory.ofString (draw : Nat) (t : Str) : Memory := { cells := cellsFrom 0 t, draw := draw }

/-- `IN[a]` (00_scope.md R11). -/
def State.inByte (s : State) (a : Nat) : Byte := s.inRam.read a

/-- `OUT[a]` (00_scope.md R11). -/
def State.outByte (s : State) (a : Nat) : Byte := s.outRam.read a

/-- `IN[0..n)` (20_memory.md R73). -/
def State.inString (s : State) (n : Nat) : Str := s.inRam.readBytes 0 n

/-- `OUT[0..n)` (20_memory.md R74). -/
def State.outString (s : State) (n : Nat) : Str := s.outRam.readBytes 0 n

/-! ### Effects and completion -/

/-- One effect of a command (40_command_protocol.md R114). -/
inductive Effect where
  /-- `OUT[0..len(t)) <- t`; the bytes beyond are any value (20_memory.md R74). -/
  | out (t : Str)
  /-- `OUT_LEN <- n`. -/
  | outLen (n : Nat)
  /-- `BYTES_PER_ROW <- n`. -/
  | bytesPerRow (n : Nat)
  /-- `TOTAL_BYTES <- n`. -/
  | totalBytes (n : Nat)
  /-- `CRC <- c`. -/
  | crc (c : BitVec 16)
  deriving DecidableEq, Repr

/-- What a command's `exec` returns (40_command_protocol.md R114): effects, or an error code with its ERR_INFO; or it
waits for an engine that has not answered (93_implementation_defined.md I16). -/
inductive CmdResult where
  | ok (effects : List Effect)
  | error (code : ErrCode) (info : Word)
  | waiting (raw : Str)
  deriving DecidableEq, Repr

/-- Apply one effect. -/
def State.apply (s : State) : Effect → State
  | .out t => { s with outRam := Memory.ofString s.draws t, draws := s.draws + 1 }
  | .outLen n => { s with outLen := BitVec.ofNat 32 n }
  | .bytesPerRow n => { s with bytesPerRow := BitVec.ofNat 32 n }
  | .totalBytes n => { s with totalBytes := BitVec.ofNat 32 n }
  | .crc c => { s with crc := c }

/-- Apply effects in order. -/
def State.applyAll (s : State) : List Effect → State
  | [] => s
  | e :: es => (s.apply e).applyAll es

/-- The end of every completion step (40_command_protocol.md R114, from `ERR_INFO <- info` on). The hidden working
state is any value from here to the next command (10_state.md R49, R50). -/
def State.finish (s : State) (code : ErrCode) (info : Word) : State :=
  { s with
    errInfo := info
    errCode := code
    err := s.err || code != .ok
    done := true
    phase := .idle
    deflateReq := none
    work := Work.free s.draws
    draws := s.draws + 1 }

/-- The error completion, ZRE's one exception entry (60_exceptions.md R290). `keepsOut` holds for an Illegal word and
CRC16; otherwise OUT becomes any value in every byte. -/
def State.errorCompletion (s : State) (keepsOut : Bool) (code : ErrCode) (info : Word) : State :=
  State.finish
    { s with
      outLen := 0
      outRam := if keepsOut then s.outRam else Memory.unknown s.draws
      draws := if keepsOut then s.draws else s.draws + 1 }
    code info

/-- The completion step, given what the command's `exec` returned (40_command_protocol.md R114). A command that waits for
the engine stays BUSY with its request outstanding (93_implementation_defined.md I16). -/
def State.complete (s : State) (keepsOut : Bool) : CmdResult → State
  | .ok effects => (s.applyAll effects).finish .ok 0
  | .error code info => s.errorCompletion keepsOut code info
  | .waiting raw => { s with deflateReq := some raw }

/-- The completion step of an illegal command word (30_encoding.md R94, 40_command_protocol.md R120, 60_exceptions.md R284). -/
def State.completeIllegal (s : State) : State := s.errorCompletion true .illegalCommand s.cmd

/-- The output-size check and the effects of a command that writes OUT (20_memory.md R74, 60_exceptions.md R287). -/
def emitOut (s : State) (payload : Str) (more : List Effect) : CmdResult :=
  if payload.length > s.outSize.toNat then .error .outputOverflow (sat32 payload.length)
  else .ok ([.out payload, .outLen payload.length] ++ more)

/-! ### Resets -/

/-- What every reset does to the registers, the phase, the DEFLATE request and the working state (10_state.md R50,
70_reset_and_hazards.md R310, R312). IN_SIZE and OUT_SIZE keep their parameters (R41). -/
def State.resetRegisters (s : State) : State :=
  { s with
    irqEn := false
    cmd := 0
    phase := .idle
    done := false
    err := false
    wdrop := false
    errCode := .ok
    enc := .hexCompressed
    threshold := 0x80
    width := 0
    height := 0
    inLen := 0
    bytesPerRow := 0
    totalBytes := 0
    outLen := 0
    crc := 0
    errInfo := 0
    deflateReq := none
    work := Work.free s.draws
    draws := s.draws + 1 }

/-- OUT becomes any value in every byte (70_reset_and_hazards.md R311). -/
def State.scrambleOut (s : State) : State := { s with outRam := Memory.unknown s.draws, draws := s.draws + 1 }

/-- Soft reset (70_reset_and_hazards.md R312): IN is unchanged; OUT is unchanged when idle and any value when a command was aborted (R311). -/
def State.softReset (s : State) : State :=
  match s.phase with
  | .idle => s.resetRegisters
  | .busy => s.resetRegisters.scrambleOut

/-- Hardware reset (70_reset_and_hazards.md R310): both RAMs become any value (R311). -/
def State.hardwareReset (s : State) : State :=
  { s.resetRegisters with
    inRam := Memory.unknown (s.draws + 1)
    outRam := Memory.unknown (s.draws + 2)
    draws := s.draws + 3
    reply := .nothing }

/-- Command acceptance (40_command_protocol.md R111, the branch BUSY = 0). -/
def State.accept (s : State) (w : Word) : State := { s with cmd := w, phase := .busy, done := false }

end Sys2Proof.Machine
end

