-- ==== Sys2Proof/Machine/Bus.lean ====
section
/-! DEFINITION. The host port: the address map, register and RAM accesses, dropped writes and bus errors (20_memory.md R60 to R69, 10_state.md R20 to R44). -/

namespace Sys2Proof.Machine

/-- The registers of 10_state.md R20, and a reserved offset (R42). -/
inductive Reg where
  | id
  | ctrl
  | cmd
  | status
  | config
  | width
  | height
  | inLen
  | bytesPerRow
  | totalBytes
  | outLen
  | crc
  | errInfo
  | inSize
  | outSize
  | reserved
  deriving DecidableEq, Repr

/-- The register at a 4-aligned offset of the register window (10_state.md R20, R42). -/
def regAt (offset : Nat) : Reg :=
  match offset / 4 with
  | 0 => .id
  | 1 => .ctrl
  | 2 => .cmd
  | 3 => .status
  | 4 => .config
  | 5 => .width
  | 6 => .height
  | 7 => .inLen
  | 8 => .bytesPerRow
  | 9 => .totalBytes
  | 10 => .outLen
  | 11 => .crc
  | 12 => .errInfo
  | 13 => .inSize
  | 14 => .outSize
  | _ => .reserved

/-- The result registers, which read as any value while BUSY = 1 (10_state.md R44). -/
def isResultReg : Reg → Bool
  | .bytesPerRow => true
  | .totalBytes => true
  | .outLen => true
  | .crc => true
  | .errInfo => true
  | .id => false
  | .ctrl => false
  | .cmd => false
  | .status => false
  | .config => false
  | .width => false
  | .height => false
  | .inLen => false
  | .inSize => false
  | .outSize => false
  | .reserved => false

/-- The registers whose writes are dropped while BUSY = 1 (10_state.md R43). -/
def isDroppedReg : Reg → Bool
  | .cmd => true
  | .config => true
  | .width => true
  | .height => true
  | .inLen => true
  | .id => false
  | .ctrl => false
  | .status => false
  | .bytesPerRow => false
  | .totalBytes => false
  | .outLen => false
  | .crc => false
  | .errInfo => false
  | .inSize => false
  | .outSize => false
  | .reserved => false

/-- ID (10_state.md R21). -/
def idWord : Word := 0x5A524507

/-- The exact value of a register read (10_state.md R20 to R42). -/
def State.readReg (s : State) : Reg → Word
  | .id => idWord
  | .ctrl => s.ctrlWord
  | .cmd => s.cmd
  | .status => s.statusWord
  | .config => s.configWord
  | .width => s.width.setWidth 32
  | .height => s.height.setWidth 32
  | .inLen => s.inLen.setWidth 32
  | .bytesPerRow => s.bytesPerRow
  | .totalBytes => s.totalBytes
  | .outLen => s.outLen
  | .crc => s.crc.setWidth 32
  | .errInfo => s.errInfo
  | .inSize => s.inSize
  | .outSize => s.outSize
  | .reserved => 0

/-- The bytes of an access. -/
def widthBytes : Width → Nat
  | .w8 => 1
  | .w16 => 2
  | .w32 => 4

/-- What an access reaches (20_memory.md R61); `nothing` answers with a bus error. -/
inductive Target where
  | register (r : Reg)
  | inRam (a : Nat)
  | outRam (a : Nat)
  | nothing
  deriving DecidableEq, Repr

/-- Naturally aligned, and every byte of the access implemented (20_memory.md R62, R67). Log 14. -/
abbrev ramReachable (w : Width) (offset size : Nat) : Prop :=
  offset % widthBytes w = 0 ∧ offset + widthBytes w ≤ size

/-- The address map (20_memory.md R61, R62, R66, R67): registers below 0x1000, IN at 0x1000000, OUT at 0x2000000. -/
def busTarget (w : Width) (a inSize outSize : Nat) : Target :=
  if a < 0x1000 then
    if w = .w32 ∧ a % 4 = 0 then .register (regAt a) else .nothing
  else if 0x1000000 ≤ a ∧ a < 0x2000000 then
    if ramReachable w (a - 0x1000000) inSize then .inRam (a - 0x1000000) else .nothing
  else if 0x2000000 ≤ a ∧ a < 0x3000000 then
    if ramReachable w (a - 0x2000000) outSize then .outRam (a - 0x2000000) else .nothing
  else .nothing

/-- What an access reaches on this instance. -/
def State.target (s : State) (w : Width) (addr : Addr) : Target :=
  busTarget w addr.toNat s.inSize.toNat s.outSize.toNat

/-- Answer an access on the host port. -/
def State.answer (s : State) (r : BusReply) : State := { s with reply := r }

/-- Answer a read with any value of its width (10_state.md R44, 70_reset_and_hazards.md R321). Log 8. -/
def State.answerFree (s : State) (w : Width) : State :=
  { s with reply := .data (wordOfBytes (bytesOfWord (Config.freeWord s.draws) (widthBytes w))), draws := s.draws + 1 }

/-- A host write dropped because BUSY = 1 (10_state.md R43); it completes without an error. -/
def State.dropWrite (s : State) : State := { s with wdrop := true, reply := .done }

/-- A host write of CTRL: never dropped; SRST = 1 resets and discards bit 0 (10_state.md R25, 70_reset_and_hazards.md R312). -/
def State.writeCtrl (s : State) (v : Word) : State :=
  if v.getLsbD 1 then s.softReset else { s with irqEn := v.getLsbD 0 }

/-- A register write that is not dropped (10_state.md R20 to R42); a write to a read-only or reserved register is ignored. -/
def State.writeReg (s : State) (v : Word) : Reg → State
  | .ctrl => s.writeCtrl v
  | .cmd => s.accept v
  | .status => s.clearStatus v
  | .config => s.writeConfig v
  | .width => { s with width := v.extractLsb' 0 16 }
  | .height => { s with height := v.extractLsb' 0 16 }
  | .inLen => { s with inLen := v.extractLsb' 0 25 }
  | .id => s
  | .bytesPerRow => s
  | .totalBytes => s
  | .outLen => s
  | .crc => s
  | .errInfo => s
  | .inSize => s
  | .outSize => s
  | .reserved => s

/-- A host read (20_memory.md R65 to R67, 10_state.md R44). -/
def State.hostRead (s : State) (w : Width) (addr : Addr) : State :=
  match s.target w addr with
  | .register r => if s.busy && isResultReg r then s.answerFree w else s.answer (.data (s.readReg r))
  | .inRam a => s.answer (.data (wordOfBytes (s.inRam.readBytes a (widthBytes w))))
  | .outRam a =>
    if s.busy then s.answerFree w else s.answer (.data (wordOfBytes (s.outRam.readBytes a (widthBytes w))))
  | .nothing => s.answer .error

/-- A host write (20_memory.md R65 to R68, 10_state.md R43). A bus error comes before a drop. Log 13. -/
def State.hostWrite (s : State) (w : Width) (addr : Addr) (v : Word) : State :=
  match s.target w addr with
  | .register r => if s.busy && isDroppedReg r then s.dropWrite else (s.writeReg v r).answer .done
  | .inRam a =>
    if s.busy then s.dropWrite
    else ({ s with inRam := s.inRam.writeBytes a (bytesOfWord v (widthBytes w)) }).answer .done
  | .outRam _ => s.answer .error
  | .nothing => s.answer .error

/-- One host access; while `rst_n` is 0 it is not performed and gets a bus error (70_reset_and_hazards.md R310). -/
def State.access (s : State) (x : Access) : State :=
  if s.rstN then
    match x with
    | .read w addr => s.hostRead w addr
    | .write w addr v => s.hostWrite w addr v
  else s.answer .error

/-- A level driven on `rst_n` (70_reset_and_hazards.md R310): ZRE is in reset while it is 0 and in the step of its
release; a level of 1 on a released pin changes nothing. Log 12. -/
def State.driveReset (s : State) (level : Bool) : State :=
  if level && s.rstN then s else { s.hardwareReset with rstN := level }

end Sys2Proof.Machine
end

