-- ==== Sys2Proof/Machine/Operands.lean ====
section
/-! DEFINITION. The implicit operands of the commands (30_encoding.md R92): register fields as numbers, pixels, the input string, the region checks, and the DEFLATE call. -/

namespace Sys2Proof.Machine

/-- `4 * W * H`, the bytes of IN that a pixel command needs (20_memory.md R72). -/
def State.pixelBytes (s : State) : Nat := 4 * s.width.toNat * s.height.toNat

/-- The IN offset of pixel (x, y) (20_memory.md R71). -/
def State.pixelOffset (s : State) (x y : Nat) : Nat := 4 * (y * s.width.toNat + x)

/-- `R(x, y)` (20_memory.md R71). -/
def State.red (s : State) (x y : Nat) : Byte := s.inByte (s.pixelOffset x y)

/-- `G(x, y)` (20_memory.md R71). -/
def State.green (s : State) (x y : Nat) : Byte := s.inByte (s.pixelOffset x y + 1)

/-- `B(x, y)` (20_memory.md R71). -/
def State.blue (s : State) (x y : Nat) : Byte := s.inByte (s.pixelOffset x y + 2)

/-- `bpr(W) = ceil_div(W, 8)` (42_row_packer.md R141). -/
def bpr (w : Nat) : Nat := ceilDiv w 8

/-- `totalBytes(W, H)` (42_row_packer.md R141). -/
def totalBytesOf (w h : Nat) : Nat := bpr w * h

/-- The pixel-region check of PACK and ENCODE, before everything that reads IN (20_memory.md R72, 60_exceptions.md R283). -/
def withPixelRegion (s : State) (k : CmdResult) : CmdResult :=
  if s.pixelBytes > s.inSize.toNat then .error .invalidInput (sat32 s.pixelBytes) else k

/-- The input-region check of the byte-input commands, and their input string (20_memory.md R73, 60_exceptions.md R283). -/
def withInput (s : State) (k : Str → CmdResult) : CmdResult :=
  if s.inLen.toNat > s.inSize.toNat then .error .invalidInput (sat32 s.inLen.toNat) else k (s.inString s.inLen.toNat)

/-- `deflateCall(raw) = P_DEFLATE(raw)` (44_binary_framer.md R210): what the state's engine table pins, else the open
parameter. Log 2. -/
def State.deflateCall (s : State) (raw : Str) : DeflateAnswer :=
  match s.engine.lookup raw with
  | some a => a
  | none => Config.deflate raw

end Sys2Proof.Machine
end

