-- ==== Sys2Proof/Machine/Threshold.lean ====
section
/-! DEFINITION. U1, the bi-level threshold comparator (41_bilevel_reducer.md). -/

namespace Sys2Proof.Machine

/-- `lum` of three channels: their exact sum divided by 3, rounded down (41_bilevel_reducer.md R130). -/
def luminance (r g b : Byte) : Nat := (r.toNat + g.toNat + b.toNat) / 3

/-- The decision `lum < T`, strict and unsigned (41_bilevel_reducer.md R131). -/
def isBlack (t r g b : Byte) : Bool := luminance r g b < t.toNat

/-- `black(x, y)` with T = CONFIG.THRESHOLD (41_bilevel_reducer.md R131). -/
def State.black (s : State) (x y : Nat) : Bool := isBlack s.threshold (s.red x y) (s.green x y) (s.blue x y)

end Sys2Proof.Machine
end

