-- ==== Sys2Proof/Machine/Packer.lean ====
section
/-! DEFINITION. U2, the bit packer, and the PACK command (42_row_packer.md). -/

namespace Sys2Proof.Machine

/-- The sum of 42_row_packer.md R142 over `k = 0 .. n-1` for byte `j` of a row: pixel 8j + k goes to bit 7 - k. -/
def packSum (w : Nat) (row : Nat → Bool) (j : Nat) : Nat → Nat
  | 0 => 0
  | k + 1 => packSum w row j k + (if 8 * j + k < w ∧ row (8 * j + k) = true then 2 ^ (7 - k) else 0)

/-- `rowByte(y, j)` of a row of W decisions (42_row_packer.md R142). -/
def rowByte (w : Nat) (row : Nat → Bool) (j : Nat) : Byte := BitVec.ofNat 8 (packSum w row j 8)

/-- Bytes `j, j+1, .., j+n-1` of a row. -/
def rowBytesFrom (w : Nat) (row : Nat → Bool) (j : Nat) : Nat → Str
  | 0 => []
  | n + 1 => rowByte w row j :: rowBytesFrom w row (j + 1) n

/-- All `bpr(W)` bytes of a row. -/
def rowBytes (w : Nat) (row : Nat → Bool) : Str := rowBytesFrom w row 0 (bpr w)

/-- Each byte as two uppercase hex digits (42_row_packer.md R144). -/
def hexOfBytes : Str → Str
  | [] => []
  | b :: bs => hexU b.toNat 2 ++ hexOfBytes bs

/-- Rows `y, .., y+n-1` as hex text, each followed by a newline (42_row_packer.md R145, 90_conflicts.md C1). -/
def hexTextFrom (w : Nat) (black : Nat → Nat → Bool) (y : Nat) : Nat → Str
  | 0 => []
  | n + 1 => hexOfBytes (rowBytes w (fun x => black x y)) ++ newline :: hexTextFrom w black (y + 1) n

/-- Rows `y, .., y+n-1` as raw bytes (42_row_packer.md R147). -/
def packedFrom (w : Nat) (black : Nat → Nat → Bool) (y : Nat) : Nat → Str
  | 0 => []
  | n + 1 => rowBytes w (fun x => black x y) ++ packedFrom w black (y + 1) n

/-- `hexText(W, H, T)` of the image in IN (42_row_packer.md R145). -/
def State.hexText (s : State) : Str := hexTextFrom s.width.toNat s.black 0 s.height.toNat

/-- `packedBytes(W, H, T)` of the image in IN (42_row_packer.md R147). -/
def State.packedBytes (s : State) : Str := packedFrom s.width.toNat s.black 0 s.height.toNat

/-- `exec_PACK` (42_row_packer.md R150). -/
def packResult (s : State) : CmdResult :=
  withPixelRegion s
    (emitOut s s.hexText
      [.bytesPerRow (bpr s.width.toNat), .totalBytes (totalBytesOf s.width.toNat s.height.toNat)])

/-- PACK (42_row_packer.md R150). -/
def execPack (s : State) : Host.Outcome State Fault Refusal := .next (s.complete false (packResult s))

end Sys2Proof.Machine
end

