-- ==== Sys2Proof/Machine/Compressor.lean ====
section
/-! DEFINITION. U3, the ZPL run-length compressor, and the COMPRESS command (43_rle_compressor.md). -/

namespace Sys2Proof.Machine

/-- The unit letter of a count 1 to 19 (43_rle_compressor.md R161). -/
def letter1 (r : Nat) : Byte := BitVec.ofNat 8 (0x46 + r)

/-- The letter of a count 20, 40, .., 400 (43_rle_compressor.md R162). -/
def letter20 (m : Nat) : Byte := BitVec.ofNat 8 (0x66 + m / 20)

/-- `runToken(n, c)` (43_rle_compressor.md R164, 90_conflicts.md C6). -/
def runToken (n : Nat) (c : Byte) : Str :=
  List.replicate (n / 400) (letter20 400)
    ++ (if n % 400 / 20 ≠ 0 then [letter20 (n % 400 / 20 * 20)] else [])
    ++ (if n % 20 ≠ 0 then [letter1 (n % 20)] else [])
    ++ [c]

/-- `rowEndToken(counter, aux)` with its all-`0` and all-`F` shortcuts (43_rle_compressor.md R167). -/
def rowEndToken (maxLineLen counter : Nat) (aux : Byte) : Str :=
  if counter = maxLineLen ∧ aux = 0x30 then [comma]
  else if counter = maxLineLen ∧ aux = 0x46 then [bang]
  else runToken counter aux

/-- U3 at the first character of a text, which seeds the run without being counted (43_rle_compressor.md R169); the
line-repeat buffer starts empty (10_state.md R49). -/
def runUnitStart (c : Byte) : RunUnit :=
  { aux := c, counter := 0, seed := false, line := [], prev := [], prevValid := false }

/-- U3 with the output so far. -/
structure RunProgress where
  unit : RunUnit
  out : Str
  deriving DecidableEq, Repr

/-- The end of a row: its text, or `:` when it repeats the previous row's (43_rle_compressor.md R170, R171). -/
def endRow (maxLineLen : Nat) (p : RunProgress) : RunProgress :=
  let line := p.unit.line ++ rowEndToken maxLineLen p.unit.counter p.unit.aux
  let fresh := { p.unit with line := [], counter := 1, seed := true }
  if p.unit.prevValid = true ∧ line = p.unit.prev then { unit := fresh, out := p.out ++ [colon] }
  else { unit := { fresh with prev := line, prevValid := true }, out := p.out ++ line }

/-- One pass of the loop of 43_rle_compressor.md R170, on the next character. -/
def runStep (maxLineLen : Nat) (p : RunProgress) (c : Byte) : RunProgress :=
  if p.unit.seed then { p with unit := { p.unit with aux := c, seed := false } }
  else if c = newline then endRow maxLineLen p
  else if c = p.unit.aux then { p with unit := { p.unit with counter := p.unit.counter + 1 } }
  else { p with unit := { p.unit with line := p.unit.line ++ runToken p.unit.counter p.unit.aux, aux := c, counter := 1 } }

/-- `zplCompress(t, bpr)` (43_rle_compressor.md R170). The empty text, which its commands refuse first (R178), gives the empty string. -/
def zplCompress (t : Str) (rowLen : Nat) : Str :=
  match t with
  | [] => []
  | c :: rest => (rest.foldl (runStep (2 * rowLen)) { unit := runUnitStart c, out := [] }).out

/-- An uppercase hex digit (43_rle_compressor.md R181). -/
def isUpperHex (c : Byte) : Bool :=
  (0x30 ≤ c.toNat && c.toNat ≤ 0x39) || (0x41 ≤ c.toNat && c.toNat ≤ 0x46)

/-- `validateHexText` from offset `i` on: the first offset that breaks the format (43_rle_compressor.md R181). -/
def hexTextFaultFrom (rowLen i : Nat) : Str → Option Nat
  | [] => if i % (2 * rowLen + 1) ≠ 0 then some i else none
  | c :: t =>
    if i % (2 * rowLen + 1) < 2 * rowLen ∧ isUpperHex c = false then some i
    else if i % (2 * rowLen + 1) = 2 * rowLen ∧ c ≠ newline then some i
    else hexTextFaultFrom rowLen (i + 1) t

/-- `validateHexText(t, bpr)` (43_rle_compressor.md R181). -/
def hexTextFault (t : Str) (rowLen : Nat) : Option Nat := hexTextFaultFrom rowLen 0 t

/-- `exec_COMPRESS` (43_rle_compressor.md R180). -/
def compressResult (s : State) : CmdResult :=
  withInput s fun t =>
    let rowLen := bpr s.width.toNat
    if rowLen = 0 ∨ t.length = 0 then .error .degenerateRaster 0
    else match hexTextFault t rowLen with
      | some e => .error .invalidEncoding (BitVec.ofNat 32 e)
      | none => emitOut s (zplCompress t rowLen)
          [.bytesPerRow rowLen, .totalBytes (rowLen * (t.length / (2 * rowLen + 1)))]

/-- COMPRESS (43_rle_compressor.md R180). -/
def execCompress (s : State) : Host.Outcome State Fault Refusal := .next (s.complete false (compressResult s))

end Sys2Proof.Machine
end

