-- ==== Sys2Proof/Machine/Crc.lean ====
section
/-! DEFINITION. U5, the CRC-16 generator, and the CRC16 command (45_crc16.md). -/

namespace Sys2Proof.Machine

/-- One bit of 45_crc16.md R240: shift left, then XOR 0x1021 when the old top bit differs from the data bit. -/
def crcBit (crc : BitVec 16) (bit : Bool) : BitVec 16 :=
  if (crc.getLsbD 15 ^^ bit) = true then (crc <<< 1) ^^^ 0x1021 else crc <<< 1

/-- Bits `n-1` down to 0 of a byte, most significant first (45_crc16.md R240). -/
def crcBits (crc : BitVec 16) (b : Byte) : Nat → BitVec 16
  | 0 => crc
  | n + 1 => crcBits (crcBit crc (b.getLsbD n)) b n

/-- `crc16(d)` with initial value 0x0000 (45_crc16.md R240, 90_conflicts.md C4). -/
def crc16 (d : Str) : BitVec 16 := d.foldl (fun crc b => crcBits crc b 8) 0x0000

/-- `exec_CRC16` (45_crc16.md R250). -/
def crc16Result (s : State) : CmdResult := withInput s fun d => .ok [.crc (crc16 d), .outLen 0]

/-- CRC16 (45_crc16.md R250); OUT is unchanged on an error too (40_command_protocol.md R114). -/
def execCrc16 (s : State) : Host.Outcome State Fault Refusal := .next (s.complete true (crc16Result s))

end Sys2Proof.Machine
end

