-- ==== Sys2Proof/Machine/Framer.lean ====
section
/-! DEFINITION. U6, the DEFLATE-invoke controller and framer, U4, the Base64 encoder, and the commands FRAME_B64, FRAME_Z64 and BASE64 (44_binary_framer.md). -/

namespace Sys2Proof.Machine

/-! ### Hex to bytes -/

/-- `hexVal(ch)`: either case (44_binary_framer.md R202). -/
def hexVal (c : Byte) : Option (BitVec 4) :=
  if 0x30 ≤ c.toNat ∧ c.toNat ≤ 0x39 then some (BitVec.ofNat 4 (c.toNat - 0x30))
  else if 0x41 ≤ c.toNat ∧ c.toNat ≤ 0x46 then some (BitVec.ofNat 4 (c.toNat - 0x41 + 10))
  else if 0x61 ≤ c.toNat ∧ c.toNat ≤ 0x66 then some (BitVec.ofNat 4 (c.toNat - 0x61 + 10))
  else none

/-- What `hexToBytes` returns: the bytes, or the offset of the fault (44_binary_framer.md R202). -/
inductive HexBytes where
  | bytes (b : Str)
  | fault (offset : Nat)
  deriving DecidableEq, Repr

/-- A byte in front of converted bytes; a fault stays a fault. -/
def consByte (b : Byte) : HexBytes → HexBytes
  | .bytes bs => .bytes (b :: bs)
  | .fault e => .fault e

/-- The loop of 44_binary_framer.md R202 from offset `i`, with the pending high nibble and the offset of the last digit. -/
def hexToBytesFrom (i : Nat) (hi : Option (BitVec 4)) (lastDigit : Nat) : Str → HexBytes
  | [] => match hi with
    | some _ => .fault lastDigit
    | none => .bytes []
  | c :: t =>
    if c = newline then hexToBytesFrom (i + 1) hi lastDigit t
    else match hexVal c with
      | none => .fault i
      | some v => match hi with
        | none => hexToBytesFrom (i + 1) (some v) i t
        | some h => consByte (h ++ v) (hexToBytesFrom (i + 1) none i t)

/-- `hexToBytes(t)` (44_binary_framer.md R202). -/
def hexToBytes (t : Str) : HexBytes := hexToBytesFrom 0 none 0 t

/-! ### Base64 -/

/-- The standard alphabet, index 0 to 63 (44_binary_framer.md R221). -/
def base64Char (v : BitVec 6) : Byte :=
  BitVec.ofNat 8
    (if v.toNat < 26 then 0x41 + v.toNat
     else if v.toNat < 52 then 0x61 + (v.toNat - 26)
     else if v.toNat < 62 then 0x30 + (v.toNat - 52)
     else if v.toNat = 62 then 0x2B
     else 0x2F)

/-- `'='`, the pad (44_binary_framer.md R221). -/
def pad : Byte := 0x3D

/-- The 24-bit value of a group of three bytes (44_binary_framer.md R220). -/
def groupValue (a b c : Byte) : BitVec 24 := a ++ b ++ c

/-- `A[v[hi:hi-5]]` for the sextet at bit `lo` (44_binary_framer.md R220). -/
def sextet (v : BitVec 24) (lo : Nat) : Byte := base64Char (v.extractLsb' lo 6)

/-- `base64(d)`, group by group; a missing byte counts as 0 and its characters are the pad (44_binary_framer.md R220). -/
def base64 : Str → Str
  | a :: b :: c :: rest =>
    let v := groupValue a b c
    sextet v 18 :: sextet v 12 :: sextet v 6 :: sextet v 0 :: base64 rest
  | [a, b] =>
    let v := groupValue a b 0
    [sextet v 18, sextet v 12, sextet v 6, pad]
  | [a] =>
    let v := groupValue a 0 0
    [sextet v 18, sextet v 12, pad, pad]
  | [] => []

/-! ### The frame -/

/-- The tag: `"Z64"` for compressed, `"B64"` for uncompressed (44_binary_framer.md R225). -/
def frameTag (z : Bool) : Str := [if z then 0x5A else 0x42, 0x36, 0x34]

/-- `payloadBytes(Z, raw)` (44_binary_framer.md R211). -/
def payloadBytes (s : State) (z : Bool) (raw : Str) : DeflateAnswer :=
  if z then s.deflateCall raw else .bytes raw

/-- The frame text around a Base64 text: `":" tag ":" base64 ":" checksum`, the checksum over the Base64 text only
(44_binary_framer.md R225, R226, 90_conflicts.md C7). -/
def frameText (z : Bool) (b : Str) : Str :=
  colon :: frameTag z ++ colon :: b ++ colon :: hexU (crc16 b).toNat 4

/-- `frame(Z, raw)` (44_binary_framer.md R225) followed by the output-size check; an engine failure is DEFLATE_ERROR
(R212), and an engine that has not answered leaves the command waiting (93_implementation_defined.md I16). -/
def frameResult (s : State) (z : Bool) (raw : Str) (more : List Effect) : CmdResult :=
  match payloadBytes s z raw with
  | .bytes d => emitOut s (frameText z (base64 d)) (more ++ [.crc (crc16 (base64 d))])
  | .failure => .error .deflateError 0
  | .noAnswer => .waiting raw

/-- `exec_FRAME(Z)` (44_binary_framer.md R230). -/
def frameCommandResult (s : State) (z : Bool) : CmdResult :=
  withInput s fun t =>
    match hexToBytes t with
    | .fault e => .error .invalidEncoding (BitVec.ofNat 32 e)
    | .bytes raw => frameResult s z raw []

/-- FRAME_B64 (44_binary_framer.md R230). -/
def execFrameB64 (s : State) : Host.Outcome State Fault Refusal := .next (s.complete false (frameCommandResult s false))

/-- FRAME_Z64 (44_binary_framer.md R231). -/
def execFrameZ64 (s : State) : Host.Outcome State Fault Refusal := .next (s.complete false (frameCommandResult s true))

/-- `exec_BASE64` (44_binary_framer.md R232). -/
def base64Result (s : State) : CmdResult := withInput s fun d => emitOut s (base64 d) []

/-- BASE64 (44_binary_framer.md R232). -/
def execBase64 (s : State) : Host.Outcome State Fault Refusal := .next (s.complete false (base64Result s))

end Sys2Proof.Machine
end

