-- ==== Sys2Proof/Machine/Encoder.lean ====
section
/-! DEFINITION. The ENCODE command, the full pipeline (46_encode_pipeline.md), and NOP (40_command_protocol.md R118). -/

namespace Sys2Proof.Machine

/-- The size registers an ENCODE writes on success (46_encode_pipeline.md R260, R266). -/
def sizeEffects (s : State) : List Effect :=
  [.bytesPerRow (bpr s.width.toNat), .totalBytes (totalBytesOf s.width.toNat s.height.toNat)]

/-- ENC = 0: U1, U2, U3 (46_encode_pipeline.md R262); a raster with no bytes is DEGENERATE_RASTER (43_rle_compressor.md R178). -/
def encodeHex (s : State) : CmdResult :=
  if bpr s.width.toNat = 0 ∨ s.height.toNat = 0 then .error .degenerateRaster 0
  else emitOut s (zplCompress s.hexText (bpr s.width.toNat)) (sizeEffects s)

/-- `exec_ENCODE` (46_encode_pipeline.md R260): CONFIG.ENC is the only branch point (R261). -/
def encodeResult (s : State) : CmdResult :=
  match s.enc with
  | .fourth => .error .unsupportedEncodingKind 3
  | .hexCompressed => withPixelRegion s (encodeHex s)
  | .base64 => withPixelRegion s (frameResult s false s.packedBytes (sizeEffects s))
  | .base64Deflate => withPixelRegion s (frameResult s true s.packedBytes (sizeEffects s))

/-- ENCODE (46_encode_pipeline.md R260). -/
def execEncode (s : State) : Host.Outcome State Fault Refusal := .next (s.complete false (encodeResult s))

/-- NOP (40_command_protocol.md R118): no effect but the completion's own. -/
def execNop (s : State) : Host.Outcome State Fault Refusal := .next (s.complete true (.ok []))

end Sys2Proof.Machine
end

