-- ==== Sys2Proof/Machine/Dispatch.lean ====
section
/-! DEFINITION. Dispatch of `exec` on the decoded command (40_command_protocol.md R120). -/

namespace Sys2Proof.Machine

/-- The completion step of a legal command (40_command_protocol.md R114, R120). -/
def exec (i : Instr) (s : State) : Host.Outcome State Fault Refusal :=
  match i with
  | .nop => Sys2Proof.Machine.execNop s
  | .encode => Sys2Proof.Machine.execEncode s
  | .pack => Sys2Proof.Machine.execPack s
  | .compress => Sys2Proof.Machine.execCompress s
  | .frameB64 => Sys2Proof.Machine.execFrameB64 s
  | .frameZ64 => Sys2Proof.Machine.execFrameZ64 s
  | .base64 => Sys2Proof.Machine.execBase64 s
  | .crc16 => Sys2Proof.Machine.execCrc16 s

end Sys2Proof.Machine
end

