-- ==== Sys2Proof/Machine/Step.lean ====
section
/-! DEFINITION. One step of ZRE: the next pending input, or the sequencer's turn (00_scope.md R15, 40_command_protocol.md R114). -/

namespace Sys2Proof.Machine

/-- The sequencer's turn: the completion step when a command is pending, and nothing when ZRE is idle or in reset
(40_command_protocol.md R114, R116, 60_exceptions.md R302). Log 6. -/
def sequencerTurn (s : State) : Host.Outcome State Fault Refusal :=
  if s.busy && s.rstN then
    match decode s.cmd with
    | .command i => exec i s
    | .illegal _ => .next s.completeIllegal
  else .next s

/-- One step: the next pending input happens; when none is pending, the sequencer has its turn. Log 5. -/
def step (s : State) : Host.Outcome State Fault Refusal :=
  match s.inputs with
  | [] => sequencerTurn s
  | .host x :: rest => .next (({ s with inputs := rest }).access x)
  | .sequencer :: rest => sequencerTurn { s with inputs := rest }
  | .resetPin level :: rest => .next (({ s with inputs := rest }).driveReset level)

/-- The state whose very next step runs the command word `w`: the word stands accepted in CMD with the sequencer BUSY
(40_command_protocol.md R111), `rst_n` is released, and the sequencer has the next turn. Log 5. -/
def State.withFetchWord (s : State) (nbits w : Nat) : State :=
  { s with
    cmd := BitVec.ofNat 32 (w % 2 ^ nbits)
    phase := .busy
    done := false
    deflateReq := none
    rstN := true
    inputs := .sequencer :: s.inputs }

end Sys2Proof.Machine
end

