-- ==== Sys2Proof/Machine/Reference.lean ====
section
/-! DEFINITION. The equivalent and inverse forms the spec names for U2, U3, U4 and U6: the serializer (42_row_packer.md R143), the run-length form (43_rle_compressor.md R174), the reference decoder (R176), newline stripping (44_binary_framer.md R201) and Base64 decoding (46_encode_pipeline.md R266). No meaning uses them: statements compare the machine with them. -/

namespace Sys2Proof.Machine

/-- U2 as the accumulator of 42_row_packer.md R143: `acc` is emitted when 8 pixels are in, or at the row end with some in. -/
def serialize (acc : Byte) (nbits : Nat) : List Bool → Str
  | [] => if nbits > 0 then [acc] else []
  | black :: rest =>
    let acc' := acc ||| (if black then 1#8 <<< (7 - nbits) else 0)
    if nbits + 1 = 8 then acc' :: serialize 0 0 rest else serialize acc' (nbits + 1) rest

/-- The rows of a newline-terminated text, without their newlines (42_row_packer.md R145). -/
def splitRows : Str → List Str
  | [] => []
  | c :: t =>
    if c = newline then [] :: splitRows t
    else match splitRows t with
      | [] => [[c]]
      | r :: rs => (c :: r) :: rs

/-- The maximal runs of a row, as (character, count) (43_rle_compressor.md R174). -/
def runsOf : Str → List (Byte × Nat)
  | [] => []
  | c :: t =>
    match runsOf t with
    | [] => [(c, 1)]
    | r :: rs => if c = r.1 then (c, r.2 + 1) :: rs else (c, 1) :: r :: rs

/-- The tokens of runs, in order. -/
def runTokens : List (Byte × Nat) → Str
  | [] => []
  | r :: rs => runToken r.2 r.1 ++ runTokens rs

/-- `rowText(0)`: the first run counted one short (43_rle_compressor.md R174). -/
def firstRowText (row : Str) : Str :=
  match runsOf row with
  | [] => []
  | r :: rs => runToken (r.2 - 1) r.1 ++ runTokens rs

/-- `rowText(y)` for y >= 1 (43_rle_compressor.md R174). -/
def laterRowText (row : Str) : Str :=
  match runsOf row with
  | [r] => if r.1 = 0x30 then [comma] else if r.1 = 0x46 then [bang] else runToken r.2 r.1
  | rs => runTokens rs

/-- `emit(y)` of 43_rle_compressor.md R174 for rows after one whose last full text is `prev`. -/
def emitRows (prev : Str) : List Str → Str
  | [] => []
  | t :: ts => if t = prev then colon :: emitRows prev ts else t ++ emitRows t ts

/-- The run-length form of the compressor (43_rle_compressor.md R174). -/
def runLengthForm (t : Str) : Str :=
  match splitRows t with
  | [] => []
  | r :: rs => firstRowText r ++ emitRows (firstRowText r) (rs.map laterRowText)

/-- The count a count letter stands for (43_rle_compressor.md R163), 0 for another byte. -/
def letterValue (c : Byte) : Nat :=
  if 0x47 ≤ c.toNat ∧ c.toNat ≤ 0x59 then c.toNat - 0x46
  else if 0x67 ≤ c.toNat ∧ c.toNat ≤ 0x7A then 20 * (c.toNat - 0x66)
  else 0

/-- The reference decoder's state: finished rows as hex text, the row being decoded, the previous decoded row, the count so far. -/
structure Unpacked where
  text : Str
  row : Str
  prev : Str
  count : Nat
  deriving DecidableEq, Repr

/-- End the decoder's current row. -/
def closeRow (p : Unpacked) : Unpacked :=
  { text := p.text ++ p.row ++ [newline], row := [], prev := p.row, count := 0 }

/-- One character of the reference decoder (43_rle_compressor.md R176), with `m = 2 * bpr`. -/
def unpackStep (m : Nat) (p : Unpacked) (c : Byte) : Unpacked :=
  if letterValue c ≠ 0 then { p with count := p.count + letterValue c }
  else if c = comma then closeRow { p with row := p.row ++ List.replicate (m - p.row.length) 0x30 }
  else if c = bang then closeRow { p with row := p.row ++ List.replicate (m - p.row.length) 0x46 }
  else if c = colon then closeRow { p with row := p.row ++ p.prev }
  else
    let row := p.row ++ List.replicate (max p.count 1) c
    if m ≤ row.length then closeRow { p with row := row } else { p with row := row, count := 0 }

/-- The reference decoder (43_rle_compressor.md R176): a row cut short at the end is ended there. -/
def zplExpand (z : Str) (rowLen : Nat) : Str :=
  let p := z.foldl (unpackStep (2 * rowLen)) { text := [], row := [], prev := [], count := 0 }
  if p.row = [] then p.text else p.text ++ p.row ++ [newline]

/-- `strip(t)` (44_binary_framer.md R201). -/
def strip (t : Str) : Str := t.filter fun c => c ≠ newline

/-- Pairs of hex digits as bytes, high nibble first; none for an odd count or a non-digit (44_binary_framer.md R202). -/
def pairBytes : Str → Option Str
  | [] => some []
  | [_] => none
  | a :: b :: t =>
    match hexVal a, hexVal b, pairBytes t with
    | some h, some l, some bs => some ((h ++ l) :: bs)
    | _, _, _ => none

/-- The index of a Base64 character (44_binary_framer.md R221). -/
def base64Index (c : Byte) : Option (BitVec 6) :=
  if 0x41 ≤ c.toNat ∧ c.toNat ≤ 0x5A then some (BitVec.ofNat 6 (c.toNat - 0x41))
  else if 0x61 ≤ c.toNat ∧ c.toNat ≤ 0x7A then some (BitVec.ofNat 6 (c.toNat - 0x61 + 26))
  else if 0x30 ≤ c.toNat ∧ c.toNat ≤ 0x39 then some (BitVec.ofNat 6 (c.toNat - 0x30 + 52))
  else if c = 0x2B then some 62
  else if c = 0x2F then some 63
  else none

/-- One group of four Base64 characters as 1, 2 or 3 bytes (44_binary_framer.md R220 read backwards). -/
def ungroup (a b c d : Byte) : Option Str :=
  match base64Index a, base64Index b with
  | some i, some j =>
    if c = pad ∧ d = pad then some [(i ++ j : BitVec 12).extractLsb' 4 8]
    else match base64Index c with
      | none => none
      | some k =>
        if d = pad then
          some [(i ++ j ++ k : BitVec 18).extractLsb' 10 8, (i ++ j ++ k : BitVec 18).extractLsb' 2 8]
        else match base64Index d with
          | none => none
          | some l =>
            some [(i ++ j ++ k ++ l : BitVec 24).extractLsb' 16 8, (i ++ j ++ k ++ l : BitVec 24).extractLsb' 8 8,
              (i ++ j ++ k ++ l : BitVec 24).extractLsb' 0 8]
  | _, _ => none

/-- Base64 decoding, group by group (46_encode_pipeline.md R266). -/
def unbase64 : Str → Option Str
  | [] => some []
  | a :: b :: c :: d :: rest =>
    match ungroup a b c d, unbase64 rest with
    | some g, some t => some (g ++ t)
    | _, _ => none
  | _ => none

end Sys2Proof.Machine
end

