-- ==== Sys2Proof/Safety.lean ====
section
/-! DEFINITION. What a legal state is, and the terms statements use: the parameters' constraints, the invariant, what a command leaves alone, and how it completes. -/

namespace Sys2Proof.Machine

/-- The constraints on the OPEN RAM sizes (00_scope.md R8). -/
def ParamsLegal (s : State) : Prop :=
  (4 ≤ s.inSize.toNat ∧ s.inSize.toNat ≤ 16777216 ∧ s.inSize.toNat % 4 = 0) ∧
  (16 ≤ s.outSize.toNat ∧ s.outSize.toNat ≤ 16777216 ∧ s.outSize.toNat % 4 = 0)

/-- Both RAMs are in canonical form and hold nothing beyond their implemented size (20_memory.md R63, R64). -/
def RamsLegal (s : State) : Prop :=
  (s.inRam.wf ∧ ∀ c ∈ s.inRam.cells, c.1 < s.inSize.toNat) ∧
  (s.outRam.wf ∧ ∀ c ∈ s.outRam.cells, c.1 < s.outSize.toNat)

/-- The first OUT_LEN bytes of OUT are valid, within OUT (10_state.md R38, 20_memory.md R74). -/
def OutValid (s : State) : Prop :=
  s.outLen.toNat ≤ s.outSize.toNat ∧ ∀ a, a < s.outLen.toNat → s.outRam.held a ≠ none

/-- The size results stay in their ranges (10_state.md R36, R37). -/
def SizesInRange (s : State) : Prop := s.bytesPerRow.toNat ≤ 8192 ∧ s.totalBytes.toNat ≤ 536862720

/-- DONE, a DEFLATE request and reset agree with the phase (10_state.md R28, 44_binary_framer.md R210, 70_reset_and_hazards.md R310). -/
def PhaseAgrees (s : State) : Prop :=
  (s.done = true → s.phase = .idle) ∧ (s.deflateReq ≠ none → s.phase = .busy) ∧ (s.rstN = false → s.phase = .idle)

/-- An error code marks an empty OUT, and a success code an ERR_INFO of 0 (60_exceptions.md R280, R282). -/
def ErrorAgrees (s : State) : Prop :=
  (s.errCode ≠ .ok → s.outLen = 0) ∧ (s.errCode = .ok → s.errInfo = 0)

/-- The hidden working state stays within its widths (10_state.md R46 to R48). -/
def WorkInRange (w : Work) : Prop :=
  w.pack.nbits ≤ 8 ∧ w.run.counter ≤ 16384 ∧ w.run.line.length ≤ 32768 ∧ w.run.prev.length ≤ 32768 ∧
  w.frame.group.length ≤ 3

/-- The invariant of ZRE. -/
def StateInv (s : State) : Prop :=
  ParamsLegal s ∧ RamsLegal s ∧ OutValid s ∧ SizesInRange s ∧ PhaseAgrees s ∧ ErrorAgrees s ∧ WorkInRange s.work

/-- The one law of the engine (44_binary_framer.md R213): what it answers inflates to what it was asked. -/
def EngineLawful (s : State) : Prop :=
  ∀ raw d, s.deflateCall raw = .bytes d → Config.inflate Config.deflateWrap d = some raw

/-- What no completion step writes: the inputs of commands, CTRL, CMD, WDROP, the parameters, the port, the pin, the
schedule, and every byte of IN (60_exceptions.md R290, 20_memory.md R63). -/
def SameInputs (s t : State) : Prop :=
  (t.irqEn = s.irqEn ∧ t.cmd = s.cmd ∧ t.wdrop = s.wdrop ∧ t.enc = s.enc ∧ t.threshold = s.threshold ∧
    t.width = s.width ∧ t.height = s.height ∧ t.inLen = s.inLen) ∧
  (t.inSize = s.inSize ∧ t.outSize = s.outSize ∧ t.rstN = s.rstN ∧ t.engine = s.engine ∧ t.reply = s.reply ∧
    t.inputs = s.inputs) ∧
  ∀ a, t.inByte a = s.inByte a

/-- The STATUS, ERR_INFO and phase of a completed command (40_command_protocol.md R114). -/
def Completed (code : ErrCode) (info : Word) (s t : State) : Prop :=
  t.phase = .idle ∧ t.done = true ∧ t.err = (s.err || code != .ok) ∧ t.errCode = code ∧ t.errInfo = info ∧
  t.deflateReq = none

/-- A command completed with an error: OUT_LEN = 0 and no other result register changes (60_exceptions.md R290). -/
def FailedWith (code : ErrCode) (info : Word) (s t : State) : Prop :=
  Completed code info s t ∧ t.outLen = 0 ∧ t.bytesPerRow = s.bytesPerRow ∧ t.totalBytes = s.totalBytes ∧ t.crc = s.crc ∧
  SameInputs s t

/-- A command completed with the output string `p` in OUT (20_memory.md R74). -/
def Produced (p : Str) (s t : State) : Prop :=
  Completed .ok 0 s t ∧ t.outLen.toNat = p.length ∧ t.outString p.length = p ∧ SameInputs s t

/-- Every byte of OUT reads as before. -/
def SameOut (s t : State) : Prop := ∀ a, t.outByte a = s.outByte a

/-- Every register field with a constant reset value holds it, and the phase is IDLE with no DEFLATE request (10_state.md R50). -/
def AtResetValues (t : State) : Prop :=
  (t.irqEn = false ∧ t.cmd = 0 ∧ t.phase = .idle ∧ t.done = false ∧ t.err = false ∧ t.wdrop = false ∧ t.errCode = .ok ∧
    t.enc = .hexCompressed ∧ t.threshold = 128) ∧
  (t.width = 0 ∧ t.height = 0 ∧ t.inLen = 0 ∧ t.bytesPerRow = 0 ∧ t.totalBytes = 0 ∧ t.outLen = 0 ∧ t.crc = 0 ∧
    t.errInfo = 0 ∧ t.deflateReq = none)

/-- An aligned access of width `w` at offset `a` of a RAM window of `size` implemented bytes (20_memory.md R67). -/
def RamAccess (w : Width) (a size : Nat) : Prop :=
  a < 0x1000000 ∧ a % widthBytes w = 0 ∧ a + widthBytes w ≤ size

/-- The characters of the ZPL compression alphabet (30_encoding.md R98). -/
def InZplAlphabet (c : Byte) : Prop :=
  isUpperHex c = true ∨ letterValue c ≠ 0 ∨ c = comma ∨ c = bang ∨ c = colon

/-- A character of Base64 text (44_binary_framer.md R221, R222). -/
def InBase64Alphabet (c : Byte) : Prop := (base64Index c).isSome = true ∨ c = pad

/-- The codes a command can complete with (60_exceptions.md R281). -/
def codesOf : Instr → List ErrCode
  | .nop => [.ok]
  | .encode => [.ok, .unsupportedEncodingKind, .invalidInput, .degenerateRaster, .deflateError, .outputOverflow]
  | .pack => [.ok, .invalidInput, .outputOverflow]
  | .compress => [.ok, .invalidInput, .degenerateRaster, .invalidEncoding, .outputOverflow]
  | .frameB64 => [.ok, .invalidInput, .invalidEncoding, .outputOverflow]
  | .frameZ64 => [.ok, .invalidInput, .invalidEncoding, .deflateError, .outputOverflow]
  | .base64 => [.ok, .invalidInput, .outputOverflow]
  | .crc16 => [.ok, .invalidInput]

end Sys2Proof.Machine
end

