-- ==== Sys2Proof/Certificates/Slice0/Obligations.lean ====
section
/-! DEFINITION. The statements about ZRE, from the numbered rules of spec/. -/

open Sys2Proof Sys2Proof.Machine

/-! ### Command words -/

/-- 30_encoding.md R95: the decode function on every 32-bit word. -/
def Obligations.DecodeFollowsOpcodeTable : Prop :=
  ∀ w : Word,
    (w.extractLsb' 8 24 ≠ 0 → ∃ why, decode w = .illegal why) ∧
    (w.extractLsb' 8 24 = 0 →
      (w.extractLsb' 0 8 = 0x00 → decode w = .command .nop) ∧
      (w.extractLsb' 0 8 = 0x01 → decode w = .command .encode) ∧
      (w.extractLsb' 0 8 = 0x02 → decode w = .command .pack) ∧
      (w.extractLsb' 0 8 = 0x03 → decode w = .command .compress) ∧
      (w.extractLsb' 0 8 = 0x04 → decode w = .command .frameB64) ∧
      (w.extractLsb' 0 8 = 0x05 → decode w = .command .frameZ64) ∧
      (w.extractLsb' 0 8 = 0x06 → decode w = .command .base64) ∧
      (w.extractLsb' 0 8 = 0x07 → decode w = .command .crc16) ∧
      (8 ≤ (w.extractLsb' 0 8).toNat → ∃ why, decode w = .illegal why))

/-- A word decodes to a command exactly when it is that command's encoding (30_encoding.md R93: the mask is all 32 bits). -/
def Obligations.DecodeAndEncodeAgree : Prop :=
  ∀ (i : Instr) (w : Word), WellFormed.instr i = true → (decode w = .command i ↔ w = encode i)

/-- Sample words of 30_encoding.md R103 and 95_test_vectors.md 2.9. -/
def Obligations.SampleWordsDecode : Prop :=
  decode 0x00000000 = .command .nop ∧ decode 0x00000001 = .command .encode ∧ decode 0x00000002 = .command .pack ∧
  decode 0x00000003 = .command .compress ∧ decode 0x00000004 = .command .frameB64 ∧
  decode 0x00000007 = .command .crc16 ∧ decode 0x00000108 = .illegal .reservedBits ∧
  decode 0x00000008 = .illegal .reservedOpcode ∧ decode 0xFFFFFFFF = .illegal .reservedBits

/-! ### Steps -/

/-- When a command is pending and the sequencer has the next turn, the step is `exec` of the decoded command, at the state
whose schedule lost that turn (40_command_protocol.md R114, R120). The schedule is the model's choice (log 5). -/
def Obligations.StepRunsDecodedCommand : Prop :=
  ∀ (s : State) (i : Instr) (rest : List Event),
    WellFormed.instr i = true → s.phase = .busy → s.rstN = true → decode s.cmd = .command i →
    (s.inputs = .sequencer :: rest ∨ s.inputs = [] ∧ rest = []) →
    step s = exec i { s with inputs := rest }

/-- A pending illegal word completes with ILLEGAL_COMMAND, ERR_INFO = the word, OUT unchanged (60_exceptions.md R284).
The schedule is the model's choice (log 5). -/
def Obligations.IllegalWordCompletesWithItsWord : Prop :=
  ∀ (s : State) (rest : List Event),
    (8 ≤ (s.cmd.extractLsb' 0 8).toNat ∨ s.cmd.extractLsb' 8 24 ≠ 0) → s.phase = .busy → s.rstN = true →
    (s.inputs = .sequencer :: rest ∨ s.inputs = [] ∧ rest = []) →
    ∃ t, step s = .next t ∧ FailedWith .illegalCommand s.cmd { s with inputs := rest } t ∧ SameOut s t

/-- Host accesses, reset-pin levels and sequencer turns happen one a step, in the order of the schedule; with nothing
pending, or in reset, the sequencer's turn changes nothing (20_memory.md R76, 60_exceptions.md R302). The schedule is the
model's choice (log 5, log 6). -/
def Obligations.InputsHappenInOrder : Prop :=
  ∀ (s : State) (rest : List Event),
    (∀ x, s.inputs = .host x :: rest → step s = .next (({ s with inputs := rest } : State).access x)) ∧
    (∀ l, s.inputs = .resetPin l :: rest → step s = .next (({ s with inputs := rest } : State).driveReset l)) ∧
    ((s.phase = .idle ∨ s.rstN = false) → (s.inputs = .sequencer :: rest ∨ s.inputs = [] ∧ rest = []) →
      step s = .next { s with inputs := rest })

/-- No step faults or is refused: errors are completions and bus errors are answers (60_exceptions.md R280, R292). -/
def Obligations.StepAlwaysAnswersNext : Prop := ∀ s : State, ∃ t, step s = .next t

/-- A command completes, with DONE set and ZRE idle, unless it asked an engine that does not answer; then it stays as it
was, with its request outstanding (40_command_protocol.md R114, R116); the wait is the model's reading of 93_implementation_defined.md
I16 (log 3). -/
def Obligations.CommandCompletesUnlessEngineSilent : Prop :=
  ∀ (i : Instr) (s t : State), exec i s = .next t →
    (Completed t.errCode t.errInfo s t) ∨
    (∃ raw, s.deflateCall raw = .noAnswer ∧ t = { s with deflateReq := some raw } ∧
      (i = .frameZ64 ∨ i = .encode ∧ s.enc = .base64Deflate))

/-! ### The host port -/

/-- 40_command_protocol.md R111: a CMD write is dropped while BUSY, and accepted, whatever the word, when not. -/
def Obligations.CommandAcceptance : Prop :=
  ∀ (s : State) (w : Word), s.rstN = true →
    (s.phase = .busy → s.access (.write .w32 0x0000008 w) = { s with wdrop := true, reply := .done }) ∧
    (s.phase = .idle →
      s.access (.write .w32 0x0000008 w) = { s with cmd := w, phase := .busy, done := false, reply := .done })

/-- 10_state.md R43: which writes are dropped while BUSY = 1, and which are not. The address of IN offset `a` is 0x1000000 + a. -/
def Obligations.BusyDropsInputWrites : Prop :=
  ∀ (s : State) (v : Word), s.phase = .busy → s.rstN = true →
    (∀ addr : Addr, (addr = 0x08 ∨ addr = 0x10 ∨ addr = 0x14 ∨ addr = 0x18 ∨ addr = 0x1C) →
      s.access (.write .w32 addr v) = { s with wdrop := true, reply := .done }) ∧
    (∀ (w : Width) (a : Nat), RamAccess w a s.inSize.toNat →
      s.access (.write w (BitVec.ofNat 26 (0x1000000 + a)) v) = { s with wdrop := true, reply := .done }) ∧
    (v.getLsbD 1 = false → s.access (.write .w32 0x04 v) = { s with irqEn := v.getLsbD 0, reply := .done }) ∧
    (v.getLsbD 1 = true → (s.access (.write .w32 0x04 v)).phase = .idle) ∧
    (s.access (.write .w32 0x0C v) =
      { s with done := s.done && !v.getLsbD 1, err := s.err && !v.getLsbD 2, wdrop := s.wdrop && !v.getLsbD 3,
               reply := .done }) ∧
    (∀ addr : Addr, (addr = 0x00 ∨ addr = 0x20 ∨ addr = 0x24 ∨ addr = 0x28 ∨ addr = 0x2C ∨ addr = 0x30 ∨ addr = 0x34 ∨
      addr = 0x38) → s.access (.write .w32 addr v) = { s with reply := .done }) ∧
    (∀ x : Access, (∀ w u, x = .write w 0x04 u → u.getLsbD 1 = false) →
      (s.access x).cmd = s.cmd ∧ (s.access x).enc = s.enc ∧ (s.access x).threshold = s.threshold ∧
      (s.access x).width = s.width ∧ (s.access x).height = s.height ∧ (s.access x).inLen = s.inLen ∧
      (s.access x).phase = .busy ∧ ∀ a, (s.access x).inByte a = s.inByte a)

/-- A host access other than a soft reset leaves what the pending command will do as it was: it changes only IRQ_EN, the
three W1C bits, the answer and the draw counter (40_command_protocol.md R113, R117). -/
def Obligations.BusyAccessChangesNoResult : Prop :=
  ∀ (s : State) (x : Access), s.phase = .busy → (∀ w u, x = .write w 0x04 u → u.getLsbD 1 = false) →
    ∃ (e d r w : Bool) (reply : BusReply) (n : Nat),
      s.access x = { s with irqEn := e, done := d, err := r, wdrop := w, reply := reply, draws := n }

/-- 70_reset_and_hazards.md R312: a CTRL write with SRST = 1, in either phase; a later write sets IRQ_EN again. -/
def Obligations.SoftResetRestoresRegisters : Prop :=
  ∀ (s : State) (v : Word), s.rstN = true → v.getLsbD 1 = true →
    let t := s.access (.write .w32 0x04 v)
    AtResetValues t ∧ t.inSize = s.inSize ∧ t.outSize = s.outSize ∧ t.reply = .done ∧ t.rstN = true ∧
    t.engine = s.engine ∧ t.inputs = s.inputs ∧ (∀ a, t.inByte a = s.inByte a) ∧ (s.phase = .idle → SameOut s t) ∧
    (t.access (.write .w32 0x04 0x00000001)).irqEn = true

/-- A level of 0 on `rst_n`, and its release, put every register at its reset value and drop a pending command
(70_reset_and_hazards.md R310). How the pin is driven is the model's choice (log 12). -/
def Obligations.HardwareResetRestoresRegisters : Prop :=
  ∀ (s : State) (l : Bool), (l = false ∨ s.rstN = false) →
    let t := s.driveReset l
    AtResetValues t ∧ t.irq = false ∧ t.inSize = s.inSize ∧ t.outSize = s.outSize ∧ t.rstN = l ∧ t.engine = s.engine ∧
    t.inputs = s.inputs

/-- 10_state.md R50: the values after each kind of reset, and at the reset state. The reset pin is the model's choice (log 12). -/
def Obligations.ResetLeavesR50Values : Prop :=
  (AtResetValues State.reset ∧ State.reset.inSize.toNat = Config.pInSize ∧ State.reset.outSize.toNat = Config.pOutSize) ∧
  (∀ s : State, AtResetValues s.softReset ∧ s.softReset.inSize = s.inSize ∧ s.softReset.outSize = s.outSize) ∧
  (∀ s : State, AtResetValues s.hardwareReset ∧ s.hardwareReset.inSize = s.inSize ∧
    s.hardwareReset.outSize = s.outSize) ∧
  (∀ s : State, s.readReg .id = 0x5A524507)

/-- While `rst_n` is 0 a host access gets a bus error and is not performed (70_reset_and_hazards.md R310). -/
def Obligations.AccessInResetIsBusError : Prop :=
  ∀ (s : State) (x : Access), s.rstN = false → s.access x = { s with reply := .error }

/-- 20_memory.md R62 and R68, with the alignment and width errors of R66 and R67: the access is answered with a bus error
and changes no ZRE state. That it comes before a drop while BUSY is the model's reading (log 13). -/
def Obligations.BusErrorsChangeNothing : Prop :=
  ∀ (s : State) (w : Width) (addr : Addr) (v : Word),
    ((0x1000 ≤ addr.toNat ∧ addr.toNat < 0x1000000) ∨ 0x3000000 ≤ addr.toNat ∨
      (0x1000000 ≤ addr.toNat ∧ addr.toNat < 0x2000000 ∧
        (s.inSize.toNat ≤ addr.toNat - 0x1000000 ∨ addr.toNat % widthBytes w ≠ 0)) ∨
      (0x2000000 ≤ addr.toNat ∧ addr.toNat < 0x3000000 ∧
        (s.outSize.toNat ≤ addr.toNat - 0x2000000 ∨ addr.toNat % widthBytes w ≠ 0)) ∨
      (addr.toNat < 0x1000 ∧ (w ≠ .w32 ∨ addr.toNat % 4 ≠ 0)) →
      s.access (.read w addr) = { s with reply := .error } ∧ s.access (.write w addr v) = { s with reply := .error }) ∧
    (0x2000000 ≤ addr.toNat ∧ addr.toNat < 0x3000000 → s.access (.write w addr v) = { s with reply := .error })

/-- A host read changes nothing but the port's answer and the model's own draw counter (20_memory.md R66, R67). -/
def Obligations.ReadsHaveNoSideEffects : Prop :=
  ∀ (s : State) (w : Width) (addr : Addr),
    s.access (.read w addr) =
      { s with reply := (s.access (.read w addr)).reply, draws := (s.access (.read w addr)).draws }

/-- What register reads return: exact values always for the non-result registers, and for the result registers when not
BUSY (10_state.md R20, R21, R26, R27, R28, R32 to R42, R44); CONFIG with the ENC values of R30, and STATUS with the error
codes of 60_exceptions.md R281, written out. -/
def Obligations.RegisterReadsReturnFields : Prop :=
  ∀ s : State, s.rstN = true →
    ((s.access (.read .w32 0x00)).reply = .data 0x5A524507 ∧
     (s.access (.read .w32 0x04)).reply = .data (BitVec.ofNat 32 s.irqEn.toNat) ∧
     (s.access (.read .w32 0x08)).reply = .data s.cmd ∧
     (∀ p ∈ [(EncKind.hexCompressed, 0), (.base64, 1), (.base64Deflate, 2), (.fourth, 3)], s.enc = p.1 →
       (s.access (.read .w32 0x10)).reply = .data (BitVec.ofNat 32 (256 * s.threshold.toNat + p.2))) ∧
     (s.access (.read .w32 0x14)).reply = .data (BitVec.ofNat 32 s.width.toNat) ∧
     (s.access (.read .w32 0x18)).reply = .data (BitVec.ofNat 32 s.height.toNat) ∧
     (s.access (.read .w32 0x1C)).reply = .data (BitVec.ofNat 32 s.inLen.toNat) ∧
     (s.access (.read .w32 0x34)).reply = .data s.inSize ∧
     (s.access (.read .w32 0x38)).reply = .data s.outSize) ∧
    (∃ v, (s.access (.read .w32 0x0C)).reply = .data v ∧ (v.getLsbD 0 = true ↔ s.phase = .busy) ∧
      v.getLsbD 1 = s.done ∧ v.getLsbD 2 = s.err ∧ v.getLsbD 3 = s.wdrop ∧ v.extractLsb' 4 4 = 0 ∧
      (∀ p ∈ [(ErrCode.ok, 0), (.invalidInput, 1), (.invalidEncoding, 2), (.unsupportedEncodingKind, 3),
        (.illegalCommand, 4), (.degenerateRaster, 5), (.deflateError, 6), (.outputOverflow, 7)],
        s.errCode = p.1 → (v.extractLsb' 8 4).toNat = p.2) ∧
      v.extractLsb' 12 20 = 0) ∧
    (∀ addr : Addr, 0x3C ≤ addr.toNat → addr.toNat < 0x1000 → addr.toNat % 4 = 0 →
      (s.access (.read .w32 addr)).reply = .data 0 ∧
      ∀ v, s.access (.write .w32 addr v) = { s with reply := .done }) ∧
    (s.phase = .idle →
      (s.access (.read .w32 0x20)).reply = .data s.bytesPerRow ∧
      (s.access (.read .w32 0x24)).reply = .data s.totalBytes ∧
      (s.access (.read .w32 0x28)).reply = .data s.outLen ∧
      (s.access (.read .w32 0x2C)).reply = .data (BitVec.ofNat 32 s.crc.toNat) ∧
      (s.access (.read .w32 0x30)).reply = .data s.errInfo)

/-- What host writes of STATUS and CTRL do in either phase, and of CONFIG, WIDTH, HEIGHT and IN_LEN when ZRE is idle
(10_state.md R25, R29 to R35), with the ENC values of R30 written out. -/
def Obligations.RegisterWritesStoreFields : Prop :=
  ∀ (s : State) (v : Word), s.rstN = true →
    s.access (.write .w32 0x0C v) =
      { s with done := s.done && !v.getLsbD 1, err := s.err && !v.getLsbD 2, wdrop := s.wdrop && !v.getLsbD 3,
               reply := .done } ∧
    (v.getLsbD 1 = false → s.access (.write .w32 0x04 v) = { s with irqEn := v.getLsbD 0, reply := .done }) ∧
    (s.phase = .idle →
      (∀ p ∈ [(EncKind.hexCompressed, 0), (.base64, 1), (.base64Deflate, 2), (.fourth, 3)], v.toNat % 4 = p.2 →
        s.access (.write .w32 0x10 v) = { s with enc := p.1, threshold := v.extractLsb' 8 8, reply := .done }) ∧
      s.access (.write .w32 0x14 v) = { s with width := v.extractLsb' 0 16, reply := .done } ∧
      s.access (.write .w32 0x18 v) = { s with height := v.extractLsb' 0 16, reply := .done } ∧
      s.access (.write .w32 0x1C v) = { s with inLen := v.extractLsb' 0 25, reply := .done })

/-- A host write to IN, when idle, stores the low bytes of the value little-endian and nothing else (20_memory.md R65). A
narrow write carries its value in the low bits (log 19). -/
def Obligations.InWriteStoresLittleEndian : Prop :=
  ∀ (s : State) (w : Width) (a : Nat) (v : Word), s.rstN = true → s.phase = .idle → RamAccess w a s.inSize.toNat →
    let t := s.access (.write w (BitVec.ofNat 26 (0x1000000 + a)) v)
    (∀ k, k < widthBytes w → t.inByte (a + k) = v.extractLsb' (8 * k) 8) ∧
    (∀ b, (b < a ∨ a + widthBytes w ≤ b) → t.inByte b = s.inByte b) ∧
    t = { s with inRam := t.inRam, reply := .done }

/-- A RAM read returns its bytes little-endian, zero above its width: IN in any phase, OUT when idle
(20_memory.md R65). The zeros above a narrow read are the model's reading (log 19). -/
def Obligations.RamReadsAreLittleEndian : Prop :=
  ∀ (s : State) (w : Width) (a : Nat), s.rstN = true →
    (RamAccess w a s.inSize.toNat →
      ∃ v, (s.access (.read w (BitVec.ofNat 26 (0x1000000 + a)))).reply = .data v ∧
        (∀ k, k < widthBytes w → v.extractLsb' (8 * k) 8 = s.inByte (a + k)) ∧ v.toNat < 2 ^ (8 * widthBytes w)) ∧
    (RamAccess w a s.outSize.toNat → s.phase = .idle →
      ∃ v, (s.access (.read w (BitVec.ofNat 26 (0x2000000 + a)))).reply = .data v ∧
        (∀ k, k < widthBytes w → v.extractLsb' (8 * k) 8 = s.outByte (a + k)) ∧ v.toNat < 2 ^ (8 * widthBytes w))

/-- The interrupt rises only at a completion, or when a host write to CTRL enables it while DONE stands (60_exceptions.md R293, R294).
The schedule is the model's choice (log 5). -/
def Obligations.IrqRisesOnlyAtCompletionOrEnable : Prop :=
  ∀ s t : State, step s = .next t → s.irq = false → t.irq = true →
    (s.phase = .busy ∧ t.phase = .idle ∧ s.irqEn = true) ∨
    (s.irqEn = false ∧ s.done = true ∧ ∃ v rest, s.inputs = .host (.write .w32 0x04 v) :: rest ∧ v.getLsbD 0 = true)

/-- Which events set STATUS bits: DONE and ERR a completion, WDROP a host write while BUSY; ERRCODE changes at a completion or a reset (10_state.md R28).
The schedule and the reset pin are the model's choice (log 5, log 12). -/
def Obligations.StatusBitsAreSetOnlyByTheirEvents : Prop :=
  ∀ s t : State, step s = .next t →
    (s.done = false → t.done = true → s.phase = .busy ∧ t.phase = .idle) ∧
    (s.err = false → t.err = true → s.phase = .busy ∧ t.phase = .idle ∧ t.done = true ∧ t.errCode ≠ .ok) ∧
    (s.wdrop = false → t.wdrop = true →
      s.phase = .busy ∧ t.phase = .busy ∧ ∃ w addr v rest, s.inputs = .host (.write w addr v) :: rest) ∧
    (s.phase = .idle → t.phase = .busy → ∃ w rest, s.inputs = .host (.write .w32 0x08 w) :: rest ∧ t.cmd = w ∧ t.done = false) ∧
    (t.errCode ≠ s.errCode → (s.phase = .busy ∧ t.phase = .idle ∧ t.done = true) ∨ AtResetValues t)

/-! ### The invariant -/

/-- Every step keeps the invariant, from every state that meets it. -/
def Obligations.StepKeepsInvariant : Prop := ∀ s t : State, StateInv s → step s = .next t → StateInv t

/-- The reset state meets the invariant, whatever the OPEN parameters are (00_scope.md R8, 10_state.md R50). -/
def Obligations.ResetMeetsInvariant : Prop := StateInv State.reset

/-! ### The commands -/

/-- 40_command_protocol.md R118: NOP changes STATUS and ERR_INFO only; while BUSY its CMD write is dropped. -/
def Obligations.NopOnlyCompletes : Prop :=
  encode .nop = 0x00000000 ∧
  (∀ s : State, ∃ t, exec .nop s = .next t ∧ Completed .ok 0 s t ∧ t.outLen = s.outLen ∧
    t.bytesPerRow = s.bytesPerRow ∧ t.totalBytes = s.totalBytes ∧ t.crc = s.crc ∧ SameOut s t ∧ SameInputs s t) ∧
  (∀ s : State, s.phase = .busy → s.rstN = true →
    s.access (.write .w32 0x08 (encode .nop)) = { s with wdrop := true, reply := .done })

/-- 42_row_packer.md R150: PACK, with its two errors in order. -/
def Obligations.PackFollowsItsRule : Prop :=
  encode .pack = 0x00000002 ∧ ∀ s : State,
    let w := s.width.toNat
    let h := s.height.toNat
    (4 * w * h ≤ s.inSize.toNat → s.hexText.length ≤ s.outSize.toNat →
      ∃ t, exec .pack s = .next t ∧ Produced s.hexText s t ∧ t.bytesPerRow.toNat = (w + 7) / 8 ∧
        t.totalBytes.toNat = (w + 7) / 8 * h ∧ t.crc = s.crc) ∧
    (s.inSize.toNat < 4 * w * h →
      ∃ t, exec .pack s = .next t ∧ FailedWith .invalidInput (sat32 (4 * w * h)) s t) ∧
    (4 * w * h ≤ s.inSize.toNat → s.outSize.toNat < s.hexText.length →
      ∃ t, exec .pack s = .next t ∧ FailedWith .outputOverflow (sat32 s.hexText.length) s t)

/-- 43_rle_compressor.md R180: COMPRESS, with its four errors in order. -/
def Obligations.CompressFollowsItsRule : Prop :=
  encode .compress = 0x00000003 ∧ ∀ s : State,
    let n := s.inLen.toNat
    let b := (s.width.toNat + 7) / 8
    let t := s.inString n
    let p := zplCompress t b
    (n ≤ s.inSize.toNat → b ≠ 0 → n ≠ 0 → hexTextFault t b = none → p.length ≤ s.outSize.toNat →
      ∃ u, exec .compress s = .next u ∧ Produced p s u ∧ u.bytesPerRow.toNat = b ∧
        u.totalBytes.toNat = b * (n / (2 * b + 1)) ∧ u.crc = s.crc) ∧
    (s.inSize.toNat < n → ∃ u, exec .compress s = .next u ∧ FailedWith .invalidInput (BitVec.ofNat 32 n) s u) ∧
    (n ≤ s.inSize.toNat → (b = 0 ∨ n = 0) → ∃ u, exec .compress s = .next u ∧ FailedWith .degenerateRaster 0 s u) ∧
    (∀ e, n ≤ s.inSize.toNat → b ≠ 0 → n ≠ 0 → hexTextFault t b = some e →
      ∃ u, exec .compress s = .next u ∧ FailedWith .invalidEncoding (BitVec.ofNat 32 e) s u) ∧
    (n ≤ s.inSize.toNat → b ≠ 0 → n ≠ 0 → hexTextFault t b = none → s.outSize.toNat < p.length →
      ∃ u, exec .compress s = .next u ∧ FailedWith .outputOverflow (sat32 p.length) s u)

/-- 44_binary_framer.md R230: FRAME_B64, with its errors in order. -/
def Obligations.FrameB64FollowsItsRule : Prop :=
  encode .frameB64 = 0x00000004 ∧ ∀ s : State,
    let n := s.inLen.toNat
    (∀ raw, n ≤ s.inSize.toNat → hexToBytes (s.inString n) = .bytes raw →
      (frameText false (base64 raw)).length ≤ s.outSize.toNat →
      ∃ t, exec .frameB64 s = .next t ∧ Produced (frameText false (base64 raw)) s t ∧ t.crc = crc16 (base64 raw) ∧
        t.bytesPerRow = s.bytesPerRow ∧ t.totalBytes = s.totalBytes) ∧
    (s.inSize.toNat < n → ∃ t, exec .frameB64 s = .next t ∧ FailedWith .invalidInput (BitVec.ofNat 32 n) s t) ∧
    (∀ e, n ≤ s.inSize.toNat → hexToBytes (s.inString n) = .fault e →
      ∃ t, exec .frameB64 s = .next t ∧ FailedWith .invalidEncoding (BitVec.ofNat 32 e) s t) ∧
    (∀ raw, n ≤ s.inSize.toNat → hexToBytes (s.inString n) = .bytes raw →
      s.outSize.toNat < (frameText false (base64 raw)).length →
      ∃ t, exec .frameB64 s = .next t ∧
        FailedWith .outputOverflow (sat32 (frameText false (base64 raw)).length) s t)

/-- 44_binary_framer.md R231: FRAME_Z64, with its errors in order, and the wait for an engine that has not answered
(93_implementation_defined.md I16), which is the model's choice (log 3). -/
def Obligations.FrameZ64FollowsItsRule : Prop :=
  encode .frameZ64 = 0x00000005 ∧ ∀ s : State,
    let n := s.inLen.toNat
    (∀ raw d, n ≤ s.inSize.toNat → hexToBytes (s.inString n) = .bytes raw → s.deflateCall raw = .bytes d →
      (frameText true (base64 d)).length ≤ s.outSize.toNat →
      ∃ t, exec .frameZ64 s = .next t ∧ Produced (frameText true (base64 d)) s t ∧ t.crc = crc16 (base64 d) ∧
        t.bytesPerRow = s.bytesPerRow ∧ t.totalBytes = s.totalBytes) ∧
    (s.inSize.toNat < n → ∃ t, exec .frameZ64 s = .next t ∧ FailedWith .invalidInput (BitVec.ofNat 32 n) s t) ∧
    (∀ e, n ≤ s.inSize.toNat → hexToBytes (s.inString n) = .fault e →
      ∃ t, exec .frameZ64 s = .next t ∧ FailedWith .invalidEncoding (BitVec.ofNat 32 e) s t) ∧
    (∀ raw, n ≤ s.inSize.toNat → hexToBytes (s.inString n) = .bytes raw → s.deflateCall raw = .failure →
      ∃ t, exec .frameZ64 s = .next t ∧ FailedWith .deflateError 0 s t) ∧
    (∀ raw d, n ≤ s.inSize.toNat → hexToBytes (s.inString n) = .bytes raw → s.deflateCall raw = .bytes d →
      s.outSize.toNat < (frameText true (base64 d)).length →
      ∃ t, exec .frameZ64 s = .next t ∧ FailedWith .outputOverflow (sat32 (frameText true (base64 d)).length) s t) ∧
    (∀ raw, n ≤ s.inSize.toNat → hexToBytes (s.inString n) = .bytes raw → s.deflateCall raw = .noAnswer →
      exec .frameZ64 s = .next { s with deflateReq := some raw })

/-- 44_binary_framer.md R232: BASE64, with its errors in order. -/
def Obligations.Base64FollowsItsRule : Prop :=
  encode .base64 = 0x00000006 ∧ ∀ s : State,
    let n := s.inLen.toNat
    let p := base64 (s.inString n)
    (n ≤ s.inSize.toNat → p.length ≤ s.outSize.toNat →
      ∃ t, exec .base64 s = .next t ∧ Produced p s t ∧ t.crc = s.crc ∧ t.bytesPerRow = s.bytesPerRow ∧
        t.totalBytes = s.totalBytes) ∧
    (s.inSize.toNat < n → ∃ t, exec .base64 s = .next t ∧ FailedWith .invalidInput (BitVec.ofNat 32 n) s t) ∧
    (n ≤ s.inSize.toNat → s.outSize.toNat < p.length →
      ∃ t, exec .base64 s = .next t ∧ FailedWith .outputOverflow (sat32 p.length) s t)

/-- 45_crc16.md R250: CRC16 writes CRC and OUT_LEN = 0, leaves OUT unchanged in both outcomes, and has one error. -/
def Obligations.Crc16FollowsItsRule : Prop :=
  encode .crc16 = 0x00000007 ∧ ∀ s : State,
    let n := s.inLen.toNat
    (n ≤ s.inSize.toNat →
      ∃ t, exec .crc16 s = .next t ∧ Completed .ok 0 s t ∧ t.crc = crc16 (s.inString n) ∧ t.outLen = 0 ∧
        t.bytesPerRow = s.bytesPerRow ∧ t.totalBytes = s.totalBytes ∧ SameOut s t ∧ SameInputs s t) ∧
    (s.inSize.toNat < n →
      ∃ t, exec .crc16 s = .next t ∧ FailedWith .invalidInput (BitVec.ofNat 32 n) s t ∧ SameOut s t)

/-- 46_encode_pipeline.md R260 with ENC = 0 (R262): the compressed hex text; its errors in order. -/
def Obligations.EncodeHexFollowsItsRule : Prop :=
  ∀ s : State, s.enc = .hexCompressed →
    let w := s.width.toNat
    let h := s.height.toNat
    let p := zplCompress s.hexText ((w + 7) / 8)
    (4 * w * h ≤ s.inSize.toNat → w ≠ 0 → h ≠ 0 → p.length ≤ s.outSize.toNat →
      ∃ t, exec .encode s = .next t ∧ Produced p s t ∧ t.bytesPerRow.toNat = (w + 7) / 8 ∧
        t.totalBytes.toNat = (w + 7) / 8 * h ∧ t.crc = s.crc) ∧
    (s.inSize.toNat < 4 * w * h →
      ∃ t, exec .encode s = .next t ∧ FailedWith .invalidInput (sat32 (4 * w * h)) s t) ∧
    ((w = 0 ∨ h = 0) → ∃ t, exec .encode s = .next t ∧ FailedWith .degenerateRaster 0 s t) ∧
    (4 * w * h ≤ s.inSize.toNat → w ≠ 0 → h ≠ 0 → s.outSize.toNat < p.length →
      ∃ t, exec .encode s = .next t ∧ FailedWith .outputOverflow (sat32 p.length) s t)

/-- 46_encode_pipeline.md R260 with ENC = 1 (R263): the `:B64:` frame of the packed bytes; its errors in order. -/
def Obligations.EncodeB64FollowsItsRule : Prop :=
  ∀ s : State, s.enc = .base64 →
    let w := s.width.toNat
    let h := s.height.toNat
    let b := base64 s.packedBytes
    (4 * w * h ≤ s.inSize.toNat → (frameText false b).length ≤ s.outSize.toNat →
      ∃ t, exec .encode s = .next t ∧ Produced (frameText false b) s t ∧ t.bytesPerRow.toNat = (w + 7) / 8 ∧
        t.totalBytes.toNat = (w + 7) / 8 * h ∧ t.crc = crc16 b) ∧
    (s.inSize.toNat < 4 * w * h →
      ∃ t, exec .encode s = .next t ∧ FailedWith .invalidInput (sat32 (4 * w * h)) s t) ∧
    (4 * w * h ≤ s.inSize.toNat → s.outSize.toNat < (frameText false b).length →
      ∃ t, exec .encode s = .next t ∧ FailedWith .outputOverflow (sat32 (frameText false b).length) s t)

/-- 46_encode_pipeline.md R260 with ENC = 2 (R264): the `:Z64:` frame of the deflated packed bytes; its errors in order, and
the wait for an engine that has not answered (93_implementation_defined.md I16), which is the model's choice (log 3). -/
def Obligations.EncodeZ64FollowsItsRule : Prop :=
  ∀ s : State, s.enc = .base64Deflate →
    let w := s.width.toNat
    let h := s.height.toNat
    (∀ d, 4 * w * h ≤ s.inSize.toNat → s.deflateCall s.packedBytes = .bytes d →
      (frameText true (base64 d)).length ≤ s.outSize.toNat →
      ∃ t, exec .encode s = .next t ∧ Produced (frameText true (base64 d)) s t ∧ t.bytesPerRow.toNat = (w + 7) / 8 ∧
        t.totalBytes.toNat = (w + 7) / 8 * h ∧ t.crc = crc16 (base64 d)) ∧
    (s.inSize.toNat < 4 * w * h →
      ∃ t, exec .encode s = .next t ∧ FailedWith .invalidInput (sat32 (4 * w * h)) s t) ∧
    (4 * w * h ≤ s.inSize.toNat → s.deflateCall s.packedBytes = .failure →
      ∃ t, exec .encode s = .next t ∧ FailedWith .deflateError 0 s t) ∧
    (∀ d, 4 * w * h ≤ s.inSize.toNat → s.deflateCall s.packedBytes = .bytes d →
      s.outSize.toNat < (frameText true (base64 d)).length →
      ∃ t, exec .encode s = .next t ∧ FailedWith .outputOverflow (sat32 (frameText true (base64 d)).length) s t) ∧
    (4 * w * h ≤ s.inSize.toNat → s.deflateCall s.packedBytes = .noAnswer →
      exec .encode s = .next { s with deflateReq := some s.packedBytes })

/-- 46_encode_pipeline.md R265: ENC = 3 completes with UNSUPPORTED_ENCODING_KIND and ERR_INFO = 3, before any other check. -/
def Obligations.EncodeFourthKindIsUnsupported : Prop :=
  ∀ s : State, s.enc = .fourth →
    ∃ t, exec .encode s = .next t ∧ FailedWith .unsupportedEncodingKind 3 s t

/-- No command writes an input register, CTRL, CMD, WDROP, a parameter or a byte of IN (20_memory.md R63, 60_exceptions.md R290). -/
def Obligations.CommandsLeaveInputsAlone : Prop :=
  ∀ (i : Instr) (s t : State), exec i s = .next t → SameInputs s t

/-- A command that completes with an error leaves OUT_LEN = 0 and no partial result, and CRC16 leaves OUT (60_exceptions.md R280, R290). -/
def Obligations.ErrorsLeaveNoPartialResult : Prop :=
  ∀ (i : Instr) (s t : State), exec i s = .next t → t.deflateReq = none → t.errCode ≠ .ok →
    FailedWith t.errCode t.errInfo s t ∧ (i = .crc16 → SameOut s t)

/-- Each command completes only with the codes 60_exceptions.md R281 lists for it; ENCODE never with INVALID_ENCODING. -/
def Obligations.CommandsRaiseOnlyTheirCodes : Prop :=
  ∀ (i : Instr) (s t : State), exec i s = .next t → t.deflateReq = none → t.errCode ∈ codesOf i

/-- Which result registers a command can write (30_encoding.md R92): BYTES_PER_ROW and TOTAL_BYTES only PACK, ENCODE and
COMPRESS; CRC only the framing commands, CRC16, and ENCODE with ENC = 1 or 2; OUT_LEN every command but NOP. -/
def Obligations.CommandsWriteOnlyTheirResults : Prop :=
  ∀ (i : Instr) (s t : State), exec i s = .next t →
    ((t.bytesPerRow ≠ s.bytesPerRow ∨ t.totalBytes ≠ s.totalBytes) → i = .pack ∨ i = .encode ∨ i = .compress) ∧
    (t.crc ≠ s.crc → i = .frameB64 ∨ i = .frameZ64 ∨ i = .crc16 ∨
      i = .encode ∧ (s.enc = .base64 ∨ s.enc = .base64Deflate)) ∧
    (t.outLen ≠ s.outLen → i ≠ .nop) ∧
    ((i = .nop ∨ i = .crc16) → SameOut s t)

/-! ### U1 and U2 -/

/-- 41_bilevel_reducer.md R130 and R131 on the pixel layout of 20_memory.md R71; byte 3 of the pixel word plays no part. -/
def Obligations.PixelIsBlackBelowThreshold : Prop :=
  ∀ (s : State) (x y : Nat),
    s.black x y = true ↔
      ((s.inByte (4 * (y * s.width.toNat + x))).toNat + (s.inByte (4 * (y * s.width.toNat + x) + 1)).toNat +
        (s.inByte (4 * (y * s.width.toNat + x) + 2)).toNat) / 3 < s.threshold.toNat

/-- The corner cases of 41_bilevel_reducer.md R134: T = 0, T = 255, T = 128, channel order, and lum = T. -/
def Obligations.ThresholdCornerCases : Prop :=
  ∀ t r g b : Byte,
    isBlack 0 r g b = false ∧ (isBlack 255 r g b = false ↔ r = 255 ∧ g = 255 ∧ b = 255) ∧
    (isBlack 128 r g b = true ↔ r.toNat + g.toNat + b.toNat ≤ 383) ∧
    (isBlack t r g b = isBlack t g r b ∧ isBlack t r g b = isBlack t r b g) ∧
    (luminance r g b = t.toNat → isBlack t r g b = false)

/-- 42_row_packer.md R142: pixel 8j + k is bit 7 - k of byte j, and the bits beyond W are 0. -/
def Obligations.RowBytePlacesPixels : Prop :=
  ∀ (w : Nat) (row : Nat → Bool) (j k : Nat), k < 8 →
    (rowByte w row j).getLsbD (7 - k) = (decide (8 * j + k < w) && row (8 * j + k))

/-- The packer is the accumulator of 42_row_packer.md R143, fed the row's pixels in order. -/
def Obligations.PackerIsTheSerializer : Prop :=
  ∀ (w : Nat) (row : Nat → Bool), rowBytes w row = serialize 0 0 ((List.range w).map row)

/-- 42_row_packer.md R146: the length of the hex text, and its two empty cases. -/
def Obligations.HexTextLength : Prop :=
  ∀ s : State,
    s.hexText.length = s.height.toNat * (2 * ((s.width.toNat + 7) / 8) + 1) ∧
    (s.width = 0 → s.hexText = List.replicate s.height.toNat newline) ∧ (s.height = 0 → s.hexText = [])

/-- The packed bytes are the row bytes, rows top to bottom and bytes left to right (41_bilevel_reducer.md R133, 42_row_packer.md
R147), totalBytes of them; the hex text spells them, one newline after each row (R145), so ENCODE's framing cannot meet bad hex
(46_encode_pipeline.md R263). -/
def Obligations.PackedBytesAreTheHexTextsBytes : Prop :=
  ∀ s : State,
    let b := (s.width.toNat + 7) / 8
    (∀ y j, y < s.height.toNat → j < b →
      s.packedBytes[y * b + j]? = some (rowByte s.width.toNat (fun x => s.black x y) j)) ∧
    s.packedBytes.length = b * s.height.toNat ∧ hexToBytes s.hexText = .bytes s.packedBytes ∧
    hexTextFault s.hexText b = none

/-! ### U3 -/

/-- The letters of a run token add up to its count, one run character ends it, and it costs at most 2n bytes
(43_rle_compressor.md R164, R165, R175, 90_conflicts.md C6). -/
def Obligations.RunTokenLettersAddUp : Prop :=
  ∀ (n : Nat) (c : Byte),
    ((runToken n c).dropLast.map letterValue).sum = n ∧ (runToken n c).getLast? = some c ∧
    (∀ x ∈ (runToken n c).dropLast, letterValue x ≠ 0) ∧ runToken 0 c = [c] ∧
    (1 ≤ n → (runToken n c).length ≤ 2 * n)

/-- COMPRESS accepts exactly the texts U2 makes for some image of bpr bytes a row and some H >= 1 (43_rle_compressor.md R181). -/
def Obligations.AcceptedTextsAreHexTexts : Prop :=
  ∀ (t : Str) (b : Nat),
    (hexTextFault t b = none ∧ t ≠ []) ↔
      ∃ (h : Nat) (black : Nat → Nat → Bool), 1 ≤ h ∧ t = hexTextFrom (8 * b) black 0 h

/-- The compressor equals its run-length form (43_rle_compressor.md R174) on every text it is given. -/
def Obligations.CompressorIsRunLengthForm : Prop :=
  ∀ (t : Str) (b : Nat), 1 ≤ b → t ≠ [] → hexTextFault t b = none → zplCompress t b = runLengthForm t

/-- The reference decoder gives back the text exactly when its first two characters differ (43_rle_compressor.md R176,
90_conflicts.md C3). -/
def Obligations.CompressorRoundTripsUnlessSeedCounts : Prop :=
  ∀ (t : Str) (b : Nat), 1 ≤ b → t ≠ [] → hexTextFault t b = none →
    (zplExpand (zplCompress t b) b = t ↔ t[0]? ≠ t[1]?)

/-- The compressor's output: at most 4 bpr bytes a row, in the ZPL alphabet, without newlines, never starting with `:`
(ASCII codes of log 15; 43_rle_compressor.md R172, R175, R177, 30_encoding.md R98). -/
def Obligations.CompressorOutputShape : Prop :=
  ∀ (t : Str) (b : Nat), 1 ≤ b → t ≠ [] → hexTextFault t b = none →
    (zplCompress t b).length ≤ 4 * b * (t.length / (2 * b + 1)) ∧
    (∀ c ∈ zplCompress t b, InZplAlphabet c ∧ c ≠ newline) ∧ (zplCompress t b).head? ≠ some colon

/-! ### U4, U5 and U6 -/

/-- Hex to bytes is newline stripping and then pairing, over the digits of either case (44_binary_framer.md R201, R202; the ASCII
codes of log 15). -/
def Obligations.HexToBytesIsStripThenPair : Prop :=
  (∀ (t b : Str), hexToBytes t = .bytes b ↔ pairBytes (strip t) = some b) ∧
  [0x30, 0x31, 0x32, 0x33, 0x34, 0x35, 0x36, 0x37, 0x38, 0x39].map hexVal =
    [some 0, some 1, some 2, some 3, some 4, some 5, some 6, some 7, some 8, some 9] ∧
  [0x41, 0x42, 0x43, 0x44, 0x45, 0x46].map hexVal = [some 10, some 11, some 12, some 13, some 14, some 15] ∧
  [0x61, 0x62, 0x63, 0x64, 0x65, 0x66].map hexVal = [some 10, some 11, some 12, some 13, some 14, some 15] ∧
  ∀ c : Byte, (c.toNat < 0x30 ∨ 0x39 < c.toNat) → (c.toNat < 0x41 ∨ 0x46 < c.toNat) →
    (c.toNat < 0x61 ∨ 0x66 < c.toNat) → hexVal c = none

/-- The offset a bad hex text reports: the first non-hex byte, or else the last digit of an odd number of them (44_binary_framer.md R202). -/
def Obligations.HexFaultOffset : Prop :=
  ∀ (t : Str) (e : Nat), hexToBytes t = .fault e →
    ∃ h : e < t.length,
      (hexVal t[e] = none ∧ t[e] ≠ newline ∧ ∀ c ∈ t.take e, c = newline ∨ (hexVal c).isSome = true) ∨
      ((∀ c ∈ t, c = newline ∨ (hexVal c).isSome = true) ∧ t[e] ≠ newline ∧ (∀ c ∈ t.drop (e + 1), c = newline) ∧
        (strip t).length % 2 = 1)

/-- The length and alphabet of Base64 text (44_binary_framer.md R220 to R222). -/
def Obligations.Base64Shape : Prop :=
  ∀ d : Str,
    (base64 d).length = 4 * ((d.length + 2) / 3) ∧ (∀ c ∈ base64 d, InBase64Alphabet c) ∧
    (∀ c ∈ (base64 d).take ((base64 d).length - 2), c ≠ pad)

/-- Base64 decoding gives back every byte string (46_encode_pipeline.md R266). -/
def Obligations.Base64RoundTrips : Prop := ∀ d : Str, unbase64 (base64 d) = some d

/-- The CRC is linear over XOR on strings of one length, 0 on strings of zeros, and 0x31C3 on the nine bytes `123456789`
(ASCII codes of log 15; 45_crc16.md R243, R244, 90_conflicts.md C4). -/
def Obligations.CrcIsLinearWithItsCheckValue : Prop :=
  (∀ d e : Str, d.length = e.length → crc16 (List.zipWith (· ^^^ ·) d e) = crc16 d ^^^ crc16 e) ∧
  (∀ n, crc16 (List.replicate n 0) = 0) ∧
  crc16 [0x31, 0x32, 0x33, 0x34, 0x35, 0x36, 0x37, 0x38, 0x39] = 0x31C3

/-- A frame is ten bytes longer than its Base64 text, starts with `:B64:` or `:Z64:`, ends with `:` and the four uppercase
digits of the CRC of the Base64 text alone, and a Base64 text leaves it with exactly three colons (ASCII codes of log 15; 44_binary_framer.md R225, R226, 30_encoding.md R99). -/
def Obligations.FrameShape : Prop :=
  ∀ (z : Bool) (d : Str),
    let b := base64 d
    let f := frameText z b
    f.length = b.length + 10 ∧ f.take 5 = [0x3A, if z then 0x5A else 0x42, 0x36, 0x34, 0x3A] ∧
    (f.drop 5).take b.length = b ∧ f.count colon = 3 ∧ (∀ c ∈ f.drop (b.length + 6), isUpperHex c = true) ∧
    pairBytes (f.drop (b.length + 6)) =
      some [(crc16 b).extractLsb' 8 8, (crc16 b).extractLsb' 0 8]

/-- Base64-decoding the middle field of a frame gives back its bytes: the raw bytes for FRAME_B64 and ENCODE with ENC = 1,
and the engine's answer to the raw bytes for FRAME_Z64 and ENCODE with ENC = 2 (46_encode_pipeline.md R266, 44_binary_framer.md R213). -/
def Obligations.FramesDecodeToTheirBytes : Prop :=
  ∀ (i : Instr) (s t : State), exec i s = .next t → t.deflateReq = none → t.errCode = .ok →
    let middle := (t.outString (t.outLen.toNat - 5)).drop 5
    (∀ raw, i = .frameB64 → hexToBytes (s.inString s.inLen.toNat) = .bytes raw → unbase64 middle = some raw) ∧
    (∀ raw, i = .frameZ64 → hexToBytes (s.inString s.inLen.toNat) = .bytes raw →
      ∃ d, s.deflateCall raw = .bytes d ∧ unbase64 middle = some d) ∧
    (i = .encode → s.enc = .base64 → unbase64 middle = some s.packedBytes) ∧
    (i = .encode → s.enc = .base64Deflate →
      ∃ d, s.deflateCall s.packedBytes = .bytes d ∧ unbase64 middle = some d)

/-! ### The check of COMPRESS -/

/-- What COMPRESS's check reports (43_rle_compressor.md R181, 60_exceptions.md R282): the lowest offset whose byte breaks the
format, an uppercase digit or a row's newline being due there, or the length of a text that stops part-way through a row. The
ASCII codes are those of log 15. -/
def Obligations.HexTextFaultIsTheFirstBadOffset : Prop :=
  ∀ (t : Str) (b e : Nat),
    let fits (i : Nat) : Prop := ∀ c, t[i]? = some c →
      (i % (2 * b + 1) < 2 * b → 0x30 ≤ c.toNat ∧ c.toNat ≤ 0x39 ∨ 0x41 ≤ c.toNat ∧ c.toNat ≤ 0x46) ∧
      (i % (2 * b + 1) = 2 * b → c = 0x0A)
    hexTextFault t b = some e ↔
      (∀ i, i < e → fits i) ∧ (e < t.length ∧ ¬fits e ∨ e = t.length ∧ t.length % (2 * b + 1) ≠ 0)
end

