-- ==== Sys2Proof/Laws/State.lean ====
section
/-! SUPPORT. One lemma per field of `State` per named update of it, true by rfl and tagged simp, so that no later proof unfolds a record update. -/

namespace Sys2Proof.Machine

/-! ### the end of a completion step (40_command_protocol.md R114) -/

@[simp] theorem State.finish_irqEn (s : State) (code : ErrCode) (info : Word) : (s.finish code info).irqEn = s.irqEn := rfl
@[simp] theorem State.finish_cmd (s : State) (code : ErrCode) (info : Word) : (s.finish code info).cmd = s.cmd := rfl
@[simp] theorem State.finish_phase (s : State) (code : ErrCode) (info : Word) : (s.finish code info).phase = .idle := rfl
@[simp] theorem State.finish_done (s : State) (code : ErrCode) (info : Word) : (s.finish code info).done = true := rfl
@[simp] theorem State.finish_err (s : State) (code : ErrCode) (info : Word) : (s.finish code info).err = (s.err || code != .ok) := rfl
@[simp] theorem State.finish_wdrop (s : State) (code : ErrCode) (info : Word) : (s.finish code info).wdrop = s.wdrop := rfl
@[simp] theorem State.finish_errCode (s : State) (code : ErrCode) (info : Word) : (s.finish code info).errCode = code := rfl
@[simp] theorem State.finish_enc (s : State) (code : ErrCode) (info : Word) : (s.finish code info).enc = s.enc := rfl
@[simp] theorem State.finish_threshold (s : State) (code : ErrCode) (info : Word) : (s.finish code info).threshold = s.threshold := rfl
@[simp] theorem State.finish_width (s : State) (code : ErrCode) (info : Word) : (s.finish code info).width = s.width := rfl
@[simp] theorem State.finish_height (s : State) (code : ErrCode) (info : Word) : (s.finish code info).height = s.height := rfl
@[simp] theorem State.finish_inLen (s : State) (code : ErrCode) (info : Word) : (s.finish code info).inLen = s.inLen := rfl
@[simp] theorem State.finish_bytesPerRow (s : State) (code : ErrCode) (info : Word) : (s.finish code info).bytesPerRow = s.bytesPerRow := rfl
@[simp] theorem State.finish_totalBytes (s : State) (code : ErrCode) (info : Word) : (s.finish code info).totalBytes = s.totalBytes := rfl
@[simp] theorem State.finish_outLen (s : State) (code : ErrCode) (info : Word) : (s.finish code info).outLen = s.outLen := rfl
@[simp] theorem State.finish_crc (s : State) (code : ErrCode) (info : Word) : (s.finish code info).crc = s.crc := rfl
@[simp] theorem State.finish_errInfo (s : State) (code : ErrCode) (info : Word) : (s.finish code info).errInfo = info := rfl
@[simp] theorem State.finish_inSize (s : State) (code : ErrCode) (info : Word) : (s.finish code info).inSize = s.inSize := rfl
@[simp] theorem State.finish_outSize (s : State) (code : ErrCode) (info : Word) : (s.finish code info).outSize = s.outSize := rfl
@[simp] theorem State.finish_inRam (s : State) (code : ErrCode) (info : Word) : (s.finish code info).inRam = s.inRam := rfl
@[simp] theorem State.finish_outRam (s : State) (code : ErrCode) (info : Word) : (s.finish code info).outRam = s.outRam := rfl
@[simp] theorem State.finish_work (s : State) (code : ErrCode) (info : Word) : (s.finish code info).work = Work.free s.draws := rfl
@[simp] theorem State.finish_deflateReq (s : State) (code : ErrCode) (info : Word) : (s.finish code info).deflateReq = none := rfl
@[simp] theorem State.finish_rstN (s : State) (code : ErrCode) (info : Word) : (s.finish code info).rstN = s.rstN := rfl
@[simp] theorem State.finish_engine (s : State) (code : ErrCode) (info : Word) : (s.finish code info).engine = s.engine := rfl
@[simp] theorem State.finish_reply (s : State) (code : ErrCode) (info : Word) : (s.finish code info).reply = s.reply := rfl
@[simp] theorem State.finish_inputs (s : State) (code : ErrCode) (info : Word) : (s.finish code info).inputs = s.inputs := rfl
@[simp] theorem State.finish_draws (s : State) (code : ErrCode) (info : Word) : (s.finish code info).draws = s.draws + 1 := rfl

/-! ### the effect on OUT (20_memory.md R74) -/

@[simp] theorem State.apply_out_irqEn (s : State) (t : Str) : (s.apply (.out t)).irqEn = s.irqEn := rfl
@[simp] theorem State.apply_out_cmd (s : State) (t : Str) : (s.apply (.out t)).cmd = s.cmd := rfl
@[simp] theorem State.apply_out_phase (s : State) (t : Str) : (s.apply (.out t)).phase = s.phase := rfl
@[simp] theorem State.apply_out_done (s : State) (t : Str) : (s.apply (.out t)).done = s.done := rfl
@[simp] theorem State.apply_out_err (s : State) (t : Str) : (s.apply (.out t)).err = s.err := rfl
@[simp] theorem State.apply_out_wdrop (s : State) (t : Str) : (s.apply (.out t)).wdrop = s.wdrop := rfl
@[simp] theorem State.apply_out_errCode (s : State) (t : Str) : (s.apply (.out t)).errCode = s.errCode := rfl
@[simp] theorem State.apply_out_enc (s : State) (t : Str) : (s.apply (.out t)).enc = s.enc := rfl
@[simp] theorem State.apply_out_threshold (s : State) (t : Str) : (s.apply (.out t)).threshold = s.threshold := rfl
@[simp] theorem State.apply_out_width (s : State) (t : Str) : (s.apply (.out t)).width = s.width := rfl
@[simp] theorem State.apply_out_height (s : State) (t : Str) : (s.apply (.out t)).height = s.height := rfl
@[simp] theorem State.apply_out_inLen (s : State) (t : Str) : (s.apply (.out t)).inLen = s.inLen := rfl
@[simp] theorem State.apply_out_bytesPerRow (s : State) (t : Str) : (s.apply (.out t)).bytesPerRow = s.bytesPerRow := rfl
@[simp] theorem State.apply_out_totalBytes (s : State) (t : Str) : (s.apply (.out t)).totalBytes = s.totalBytes := rfl
@[simp] theorem State.apply_out_outLen (s : State) (t : Str) : (s.apply (.out t)).outLen = s.outLen := rfl
@[simp] theorem State.apply_out_crc (s : State) (t : Str) : (s.apply (.out t)).crc = s.crc := rfl
@[simp] theorem State.apply_out_errInfo (s : State) (t : Str) : (s.apply (.out t)).errInfo = s.errInfo := rfl
@[simp] theorem State.apply_out_inSize (s : State) (t : Str) : (s.apply (.out t)).inSize = s.inSize := rfl
@[simp] theorem State.apply_out_outSize (s : State) (t : Str) : (s.apply (.out t)).outSize = s.outSize := rfl
@[simp] theorem State.apply_out_inRam (s : State) (t : Str) : (s.apply (.out t)).inRam = s.inRam := rfl
@[simp] theorem State.apply_out_outRam (s : State) (t : Str) : (s.apply (.out t)).outRam = Memory.ofString s.draws t := rfl
@[simp] theorem State.apply_out_work (s : State) (t : Str) : (s.apply (.out t)).work = s.work := rfl
@[simp] theorem State.apply_out_deflateReq (s : State) (t : Str) : (s.apply (.out t)).deflateReq = s.deflateReq := rfl
@[simp] theorem State.apply_out_rstN (s : State) (t : Str) : (s.apply (.out t)).rstN = s.rstN := rfl
@[simp] theorem State.apply_out_engine (s : State) (t : Str) : (s.apply (.out t)).engine = s.engine := rfl
@[simp] theorem State.apply_out_reply (s : State) (t : Str) : (s.apply (.out t)).reply = s.reply := rfl
@[simp] theorem State.apply_out_inputs (s : State) (t : Str) : (s.apply (.out t)).inputs = s.inputs := rfl
@[simp] theorem State.apply_out_draws (s : State) (t : Str) : (s.apply (.out t)).draws = s.draws + 1 := rfl

/-! ### the effect on OUT_LEN -/

@[simp] theorem State.apply_outLen_irqEn (s : State) (n : Nat) : (s.apply (.outLen n)).irqEn = s.irqEn := rfl
@[simp] theorem State.apply_outLen_cmd (s : State) (n : Nat) : (s.apply (.outLen n)).cmd = s.cmd := rfl
@[simp] theorem State.apply_outLen_phase (s : State) (n : Nat) : (s.apply (.outLen n)).phase = s.phase := rfl
@[simp] theorem State.apply_outLen_done (s : State) (n : Nat) : (s.apply (.outLen n)).done = s.done := rfl
@[simp] theorem State.apply_outLen_err (s : State) (n : Nat) : (s.apply (.outLen n)).err = s.err := rfl
@[simp] theorem State.apply_outLen_wdrop (s : State) (n : Nat) : (s.apply (.outLen n)).wdrop = s.wdrop := rfl
@[simp] theorem State.apply_outLen_errCode (s : State) (n : Nat) : (s.apply (.outLen n)).errCode = s.errCode := rfl
@[simp] theorem State.apply_outLen_enc (s : State) (n : Nat) : (s.apply (.outLen n)).enc = s.enc := rfl
@[simp] theorem State.apply_outLen_threshold (s : State) (n : Nat) : (s.apply (.outLen n)).threshold = s.threshold := rfl
@[simp] theorem State.apply_outLen_width (s : State) (n : Nat) : (s.apply (.outLen n)).width = s.width := rfl
@[simp] theorem State.apply_outLen_height (s : State) (n : Nat) : (s.apply (.outLen n)).height = s.height := rfl
@[simp] theorem State.apply_outLen_inLen (s : State) (n : Nat) : (s.apply (.outLen n)).inLen = s.inLen := rfl
@[simp] theorem State.apply_outLen_bytesPerRow (s : State) (n : Nat) : (s.apply (.outLen n)).bytesPerRow = s.bytesPerRow := rfl
@[simp] theorem State.apply_outLen_totalBytes (s : State) (n : Nat) : (s.apply (.outLen n)).totalBytes = s.totalBytes := rfl
@[simp] theorem State.apply_outLen_outLen (s : State) (n : Nat) : (s.apply (.outLen n)).outLen = BitVec.ofNat 32 n := rfl
@[simp] theorem State.apply_outLen_crc (s : State) (n : Nat) : (s.apply (.outLen n)).crc = s.crc := rfl
@[simp] theorem State.apply_outLen_errInfo (s : State) (n : Nat) : (s.apply (.outLen n)).errInfo = s.errInfo := rfl
@[simp] theorem State.apply_outLen_inSize (s : State) (n : Nat) : (s.apply (.outLen n)).inSize = s.inSize := rfl
@[simp] theorem State.apply_outLen_outSize (s : State) (n : Nat) : (s.apply (.outLen n)).outSize = s.outSize := rfl
@[simp] theorem State.apply_outLen_inRam (s : State) (n : Nat) : (s.apply (.outLen n)).inRam = s.inRam := rfl
@[simp] theorem State.apply_outLen_outRam (s : State) (n : Nat) : (s.apply (.outLen n)).outRam = s.outRam := rfl
@[simp] theorem State.apply_outLen_work (s : State) (n : Nat) : (s.apply (.outLen n)).work = s.work := rfl
@[simp] theorem State.apply_outLen_deflateReq (s : State) (n : Nat) : (s.apply (.outLen n)).deflateReq = s.deflateReq := rfl
@[simp] theorem State.apply_outLen_rstN (s : State) (n : Nat) : (s.apply (.outLen n)).rstN = s.rstN := rfl
@[simp] theorem State.apply_outLen_engine (s : State) (n : Nat) : (s.apply (.outLen n)).engine = s.engine := rfl
@[simp] theorem State.apply_outLen_reply (s : State) (n : Nat) : (s.apply (.outLen n)).reply = s.reply := rfl
@[simp] theorem State.apply_outLen_inputs (s : State) (n : Nat) : (s.apply (.outLen n)).inputs = s.inputs := rfl
@[simp] theorem State.apply_outLen_draws (s : State) (n : Nat) : (s.apply (.outLen n)).draws = s.draws := rfl

/-! ### the effect on BYTES_PER_ROW -/

@[simp] theorem State.apply_bytesPerRow_irqEn (s : State) (n : Nat) : (s.apply (.bytesPerRow n)).irqEn = s.irqEn := rfl
@[simp] theorem State.apply_bytesPerRow_cmd (s : State) (n : Nat) : (s.apply (.bytesPerRow n)).cmd = s.cmd := rfl
@[simp] theorem State.apply_bytesPerRow_phase (s : State) (n : Nat) : (s.apply (.bytesPerRow n)).phase = s.phase := rfl
@[simp] theorem State.apply_bytesPerRow_done (s : State) (n : Nat) : (s.apply (.bytesPerRow n)).done = s.done := rfl
@[simp] theorem State.apply_bytesPerRow_err (s : State) (n : Nat) : (s.apply (.bytesPerRow n)).err = s.err := rfl
@[simp] theorem State.apply_bytesPerRow_wdrop (s : State) (n : Nat) : (s.apply (.bytesPerRow n)).wdrop = s.wdrop := rfl
@[simp] theorem State.apply_bytesPerRow_errCode (s : State) (n : Nat) : (s.apply (.bytesPerRow n)).errCode = s.errCode := rfl
@[simp] theorem State.apply_bytesPerRow_enc (s : State) (n : Nat) : (s.apply (.bytesPerRow n)).enc = s.enc := rfl
@[simp] theorem State.apply_bytesPerRow_threshold (s : State) (n : Nat) : (s.apply (.bytesPerRow n)).threshold = s.threshold := rfl
@[simp] theorem State.apply_bytesPerRow_width (s : State) (n : Nat) : (s.apply (.bytesPerRow n)).width = s.width := rfl
@[simp] theorem State.apply_bytesPerRow_height (s : State) (n : Nat) : (s.apply (.bytesPerRow n)).height = s.height := rfl
@[simp] theorem State.apply_bytesPerRow_inLen (s : State) (n : Nat) : (s.apply (.bytesPerRow n)).inLen = s.inLen := rfl
@[simp] theorem State.apply_bytesPerRow_bytesPerRow (s : State) (n : Nat) : (s.apply (.bytesPerRow n)).bytesPerRow = BitVec.ofNat 32 n := rfl
@[simp] theorem State.apply_bytesPerRow_totalBytes (s : State) (n : Nat) : (s.apply (.bytesPerRow n)).totalBytes = s.totalBytes := rfl
@[simp] theorem State.apply_bytesPerRow_outLen (s : State) (n : Nat) : (s.apply (.bytesPerRow n)).outLen = s.outLen := rfl
@[simp] theorem State.apply_bytesPerRow_crc (s : State) (n : Nat) : (s.apply (.bytesPerRow n)).crc = s.crc := rfl
@[simp] theorem State.apply_bytesPerRow_errInfo (s : State) (n : Nat) : (s.apply (.bytesPerRow n)).errInfo = s.errInfo := rfl
@[simp] theorem State.apply_bytesPerRow_inSize (s : State) (n : Nat) : (s.apply (.bytesPerRow n)).inSize = s.inSize := rfl
@[simp] theorem State.apply_bytesPerRow_outSize (s : State) (n : Nat) : (s.apply (.bytesPerRow n)).outSize = s.outSize := rfl
@[simp] theorem State.apply_bytesPerRow_inRam (s : State) (n : Nat) : (s.apply (.bytesPerRow n)).inRam = s.inRam := rfl
@[simp] theorem State.apply_bytesPerRow_outRam (s : State) (n : Nat) : (s.apply (.bytesPerRow n)).outRam = s.outRam := rfl
@[simp] theorem State.apply_bytesPerRow_work (s : State) (n : Nat) : (s.apply (.bytesPerRow n)).work = s.work := rfl
@[simp] theorem State.apply_bytesPerRow_deflateReq (s : State) (n : Nat) : (s.apply (.bytesPerRow n)).deflateReq = s.deflateReq := rfl
@[simp] theorem State.apply_bytesPerRow_rstN (s : State) (n : Nat) : (s.apply (.bytesPerRow n)).rstN = s.rstN := rfl
@[simp] theorem State.apply_bytesPerRow_engine (s : State) (n : Nat) : (s.apply (.bytesPerRow n)).engine = s.engine := rfl
@[simp] theorem State.apply_bytesPerRow_reply (s : State) (n : Nat) : (s.apply (.bytesPerRow n)).reply = s.reply := rfl
@[simp] theorem State.apply_bytesPerRow_inputs (s : State) (n : Nat) : (s.apply (.bytesPerRow n)).inputs = s.inputs := rfl
@[simp] theorem State.apply_bytesPerRow_draws (s : State) (n : Nat) : (s.apply (.bytesPerRow n)).draws = s.draws := rfl

/-! ### the effect on TOTAL_BYTES -/

@[simp] theorem State.apply_totalBytes_irqEn (s : State) (n : Nat) : (s.apply (.totalBytes n)).irqEn = s.irqEn := rfl
@[simp] theorem State.apply_totalBytes_cmd (s : State) (n : Nat) : (s.apply (.totalBytes n)).cmd = s.cmd := rfl
@[simp] theorem State.apply_totalBytes_phase (s : State) (n : Nat) : (s.apply (.totalBytes n)).phase = s.phase := rfl
@[simp] theorem State.apply_totalBytes_done (s : State) (n : Nat) : (s.apply (.totalBytes n)).done = s.done := rfl
@[simp] theorem State.apply_totalBytes_err (s : State) (n : Nat) : (s.apply (.totalBytes n)).err = s.err := rfl
@[simp] theorem State.apply_totalBytes_wdrop (s : State) (n : Nat) : (s.apply (.totalBytes n)).wdrop = s.wdrop := rfl
@[simp] theorem State.apply_totalBytes_errCode (s : State) (n : Nat) : (s.apply (.totalBytes n)).errCode = s.errCode := rfl
@[simp] theorem State.apply_totalBytes_enc (s : State) (n : Nat) : (s.apply (.totalBytes n)).enc = s.enc := rfl
@[simp] theorem State.apply_totalBytes_threshold (s : State) (n : Nat) : (s.apply (.totalBytes n)).threshold = s.threshold := rfl
@[simp] theorem State.apply_totalBytes_width (s : State) (n : Nat) : (s.apply (.totalBytes n)).width = s.width := rfl
@[simp] theorem State.apply_totalBytes_height (s : State) (n : Nat) : (s.apply (.totalBytes n)).height = s.height := rfl
@[simp] theorem State.apply_totalBytes_inLen (s : State) (n : Nat) : (s.apply (.totalBytes n)).inLen = s.inLen := rfl
@[simp] theorem State.apply_totalBytes_bytesPerRow (s : State) (n : Nat) : (s.apply (.totalBytes n)).bytesPerRow = s.bytesPerRow := rfl
@[simp] theorem State.apply_totalBytes_totalBytes (s : State) (n : Nat) : (s.apply (.totalBytes n)).totalBytes = BitVec.ofNat 32 n := rfl
@[simp] theorem State.apply_totalBytes_outLen (s : State) (n : Nat) : (s.apply (.totalBytes n)).outLen = s.outLen := rfl
@[simp] theorem State.apply_totalBytes_crc (s : State) (n : Nat) : (s.apply (.totalBytes n)).crc = s.crc := rfl
@[simp] theorem State.apply_totalBytes_errInfo (s : State) (n : Nat) : (s.apply (.totalBytes n)).errInfo = s.errInfo := rfl
@[simp] theorem State.apply_totalBytes_inSize (s : State) (n : Nat) : (s.apply (.totalBytes n)).inSize = s.inSize := rfl
@[simp] theorem State.apply_totalBytes_outSize (s : State) (n : Nat) : (s.apply (.totalBytes n)).outSize = s.outSize := rfl
@[simp] theorem State.apply_totalBytes_inRam (s : State) (n : Nat) : (s.apply (.totalBytes n)).inRam = s.inRam := rfl
@[simp] theorem State.apply_totalBytes_outRam (s : State) (n : Nat) : (s.apply (.totalBytes n)).outRam = s.outRam := rfl
@[simp] theorem State.apply_totalBytes_work (s : State) (n : Nat) : (s.apply (.totalBytes n)).work = s.work := rfl
@[simp] theorem State.apply_totalBytes_deflateReq (s : State) (n : Nat) : (s.apply (.totalBytes n)).deflateReq = s.deflateReq := rfl
@[simp] theorem State.apply_totalBytes_rstN (s : State) (n : Nat) : (s.apply (.totalBytes n)).rstN = s.rstN := rfl
@[simp] theorem State.apply_totalBytes_engine (s : State) (n : Nat) : (s.apply (.totalBytes n)).engine = s.engine := rfl
@[simp] theorem State.apply_totalBytes_reply (s : State) (n : Nat) : (s.apply (.totalBytes n)).reply = s.reply := rfl
@[simp] theorem State.apply_totalBytes_inputs (s : State) (n : Nat) : (s.apply (.totalBytes n)).inputs = s.inputs := rfl
@[simp] theorem State.apply_totalBytes_draws (s : State) (n : Nat) : (s.apply (.totalBytes n)).draws = s.draws := rfl

/-! ### the effect on CRC -/

@[simp] theorem State.apply_crc_irqEn (s : State) (c : BitVec 16) : (s.apply (.crc c)).irqEn = s.irqEn := rfl
@[simp] theorem State.apply_crc_cmd (s : State) (c : BitVec 16) : (s.apply (.crc c)).cmd = s.cmd := rfl
@[simp] theorem State.apply_crc_phase (s : State) (c : BitVec 16) : (s.apply (.crc c)).phase = s.phase := rfl
@[simp] theorem State.apply_crc_done (s : State) (c : BitVec 16) : (s.apply (.crc c)).done = s.done := rfl
@[simp] theorem State.apply_crc_err (s : State) (c : BitVec 16) : (s.apply (.crc c)).err = s.err := rfl
@[simp] theorem State.apply_crc_wdrop (s : State) (c : BitVec 16) : (s.apply (.crc c)).wdrop = s.wdrop := rfl
@[simp] theorem State.apply_crc_errCode (s : State) (c : BitVec 16) : (s.apply (.crc c)).errCode = s.errCode := rfl
@[simp] theorem State.apply_crc_enc (s : State) (c : BitVec 16) : (s.apply (.crc c)).enc = s.enc := rfl
@[simp] theorem State.apply_crc_threshold (s : State) (c : BitVec 16) : (s.apply (.crc c)).threshold = s.threshold := rfl
@[simp] theorem State.apply_crc_width (s : State) (c : BitVec 16) : (s.apply (.crc c)).width = s.width := rfl
@[simp] theorem State.apply_crc_height (s : State) (c : BitVec 16) : (s.apply (.crc c)).height = s.height := rfl
@[simp] theorem State.apply_crc_inLen (s : State) (c : BitVec 16) : (s.apply (.crc c)).inLen = s.inLen := rfl
@[simp] theorem State.apply_crc_bytesPerRow (s : State) (c : BitVec 16) : (s.apply (.crc c)).bytesPerRow = s.bytesPerRow := rfl
@[simp] theorem State.apply_crc_totalBytes (s : State) (c : BitVec 16) : (s.apply (.crc c)).totalBytes = s.totalBytes := rfl
@[simp] theorem State.apply_crc_outLen (s : State) (c : BitVec 16) : (s.apply (.crc c)).outLen = s.outLen := rfl
@[simp] theorem State.apply_crc_crc (s : State) (c : BitVec 16) : (s.apply (.crc c)).crc = c := rfl
@[simp] theorem State.apply_crc_errInfo (s : State) (c : BitVec 16) : (s.apply (.crc c)).errInfo = s.errInfo := rfl
@[simp] theorem State.apply_crc_inSize (s : State) (c : BitVec 16) : (s.apply (.crc c)).inSize = s.inSize := rfl
@[simp] theorem State.apply_crc_outSize (s : State) (c : BitVec 16) : (s.apply (.crc c)).outSize = s.outSize := rfl
@[simp] theorem State.apply_crc_inRam (s : State) (c : BitVec 16) : (s.apply (.crc c)).inRam = s.inRam := rfl
@[simp] theorem State.apply_crc_outRam (s : State) (c : BitVec 16) : (s.apply (.crc c)).outRam = s.outRam := rfl
@[simp] theorem State.apply_crc_work (s : State) (c : BitVec 16) : (s.apply (.crc c)).work = s.work := rfl
@[simp] theorem State.apply_crc_deflateReq (s : State) (c : BitVec 16) : (s.apply (.crc c)).deflateReq = s.deflateReq := rfl
@[simp] theorem State.apply_crc_rstN (s : State) (c : BitVec 16) : (s.apply (.crc c)).rstN = s.rstN := rfl
@[simp] theorem State.apply_crc_engine (s : State) (c : BitVec 16) : (s.apply (.crc c)).engine = s.engine := rfl
@[simp] theorem State.apply_crc_reply (s : State) (c : BitVec 16) : (s.apply (.crc c)).reply = s.reply := rfl
@[simp] theorem State.apply_crc_inputs (s : State) (c : BitVec 16) : (s.apply (.crc c)).inputs = s.inputs := rfl
@[simp] theorem State.apply_crc_draws (s : State) (c : BitVec 16) : (s.apply (.crc c)).draws = s.draws := rfl

/-! ### the error completion (60_exceptions.md R290) -/

@[simp] theorem State.errorCompletion_irqEn (s : State) (k : Bool) (code : ErrCode) (info : Word) : (s.errorCompletion k code info).irqEn = s.irqEn := rfl
@[simp] theorem State.errorCompletion_cmd (s : State) (k : Bool) (code : ErrCode) (info : Word) : (s.errorCompletion k code info).cmd = s.cmd := rfl
@[simp] theorem State.errorCompletion_phase (s : State) (k : Bool) (code : ErrCode) (info : Word) : (s.errorCompletion k code info).phase = .idle := rfl
@[simp] theorem State.errorCompletion_done (s : State) (k : Bool) (code : ErrCode) (info : Word) : (s.errorCompletion k code info).done = true := rfl
@[simp] theorem State.errorCompletion_err (s : State) (k : Bool) (code : ErrCode) (info : Word) : (s.errorCompletion k code info).err = (s.err || code != .ok) := rfl
@[simp] theorem State.errorCompletion_wdrop (s : State) (k : Bool) (code : ErrCode) (info : Word) : (s.errorCompletion k code info).wdrop = s.wdrop := rfl
@[simp] theorem State.errorCompletion_errCode (s : State) (k : Bool) (code : ErrCode) (info : Word) : (s.errorCompletion k code info).errCode = code := rfl
@[simp] theorem State.errorCompletion_enc (s : State) (k : Bool) (code : ErrCode) (info : Word) : (s.errorCompletion k code info).enc = s.enc := rfl
@[simp] theorem State.errorCompletion_threshold (s : State) (k : Bool) (code : ErrCode) (info : Word) : (s.errorCompletion k code info).threshold = s.threshold := rfl
@[simp] theorem State.errorCompletion_width (s : State) (k : Bool) (code : ErrCode) (info : Word) : (s.errorCompletion k code info).width = s.width := rfl
@[simp] theorem State.errorCompletion_height (s : State) (k : Bool) (code : ErrCode) (info : Word) : (s.errorCompletion k code info).height = s.height := rfl
@[simp] theorem State.errorCompletion_inLen (s : State) (k : Bool) (code : ErrCode) (info : Word) : (s.errorCompletion k code info).inLen = s.inLen := rfl
@[simp] theorem State.errorCompletion_bytesPerRow (s : State) (k : Bool) (code : ErrCode) (info : Word) : (s.errorCompletion k code info).bytesPerRow = s.bytesPerRow := rfl
@[simp] theorem State.errorCompletion_totalBytes (s : State) (k : Bool) (code : ErrCode) (info : Word) : (s.errorCompletion k code info).totalBytes = s.totalBytes := rfl
@[simp] theorem State.errorCompletion_outLen (s : State) (k : Bool) (code : ErrCode) (info : Word) : (s.errorCompletion k code info).outLen = 0 := rfl
@[simp] theorem State.errorCompletion_crc (s : State) (k : Bool) (code : ErrCode) (info : Word) : (s.errorCompletion k code info).crc = s.crc := rfl
@[simp] theorem State.errorCompletion_errInfo (s : State) (k : Bool) (code : ErrCode) (info : Word) : (s.errorCompletion k code info).errInfo = info := rfl
@[simp] theorem State.errorCompletion_inSize (s : State) (k : Bool) (code : ErrCode) (info : Word) : (s.errorCompletion k code info).inSize = s.inSize := rfl
@[simp] theorem State.errorCompletion_outSize (s : State) (k : Bool) (code : ErrCode) (info : Word) : (s.errorCompletion k code info).outSize = s.outSize := rfl
@[simp] theorem State.errorCompletion_inRam (s : State) (k : Bool) (code : ErrCode) (info : Word) : (s.errorCompletion k code info).inRam = s.inRam := rfl
@[simp] theorem State.errorCompletion_outRam (s : State) (k : Bool) (code : ErrCode) (info : Word) : (s.errorCompletion k code info).outRam = (if k then s.outRam else Memory.unknown s.draws) := rfl
@[simp] theorem State.errorCompletion_work (s : State) (k : Bool) (code : ErrCode) (info : Word) : (s.errorCompletion k code info).work = Work.free (if k then s.draws else s.draws + 1) := rfl
@[simp] theorem State.errorCompletion_deflateReq (s : State) (k : Bool) (code : ErrCode) (info : Word) : (s.errorCompletion k code info).deflateReq = none := rfl
@[simp] theorem State.errorCompletion_rstN (s : State) (k : Bool) (code : ErrCode) (info : Word) : (s.errorCompletion k code info).rstN = s.rstN := rfl
@[simp] theorem State.errorCompletion_engine (s : State) (k : Bool) (code : ErrCode) (info : Word) : (s.errorCompletion k code info).engine = s.engine := rfl
@[simp] theorem State.errorCompletion_reply (s : State) (k : Bool) (code : ErrCode) (info : Word) : (s.errorCompletion k code info).reply = s.reply := rfl
@[simp] theorem State.errorCompletion_inputs (s : State) (k : Bool) (code : ErrCode) (info : Word) : (s.errorCompletion k code info).inputs = s.inputs := rfl
@[simp] theorem State.errorCompletion_draws (s : State) (k : Bool) (code : ErrCode) (info : Word) : (s.errorCompletion k code info).draws = (if k then s.draws else s.draws + 1) + 1 := rfl

/-! ### a command waiting for the engine (93_implementation_defined.md I16) -/

@[simp] theorem State.complete_waiting_irqEn (s : State) (k : Bool) (raw : Str) : (s.complete k (.waiting raw)).irqEn = s.irqEn := rfl
@[simp] theorem State.complete_waiting_cmd (s : State) (k : Bool) (raw : Str) : (s.complete k (.waiting raw)).cmd = s.cmd := rfl
@[simp] theorem State.complete_waiting_phase (s : State) (k : Bool) (raw : Str) : (s.complete k (.waiting raw)).phase = s.phase := rfl
@[simp] theorem State.complete_waiting_done (s : State) (k : Bool) (raw : Str) : (s.complete k (.waiting raw)).done = s.done := rfl
@[simp] theorem State.complete_waiting_err (s : State) (k : Bool) (raw : Str) : (s.complete k (.waiting raw)).err = s.err := rfl
@[simp] theorem State.complete_waiting_wdrop (s : State) (k : Bool) (raw : Str) : (s.complete k (.waiting raw)).wdrop = s.wdrop := rfl
@[simp] theorem State.complete_waiting_errCode (s : State) (k : Bool) (raw : Str) : (s.complete k (.waiting raw)).errCode = s.errCode := rfl
@[simp] theorem State.complete_waiting_enc (s : State) (k : Bool) (raw : Str) : (s.complete k (.waiting raw)).enc = s.enc := rfl
@[simp] theorem State.complete_waiting_threshold (s : State) (k : Bool) (raw : Str) : (s.complete k (.waiting raw)).threshold = s.threshold := rfl
@[simp] theorem State.complete_waiting_width (s : State) (k : Bool) (raw : Str) : (s.complete k (.waiting raw)).width = s.width := rfl
@[simp] theorem State.complete_waiting_height (s : State) (k : Bool) (raw : Str) : (s.complete k (.waiting raw)).height = s.height := rfl
@[simp] theorem State.complete_waiting_inLen (s : State) (k : Bool) (raw : Str) : (s.complete k (.waiting raw)).inLen = s.inLen := rfl
@[simp] theorem State.complete_waiting_bytesPerRow (s : State) (k : Bool) (raw : Str) : (s.complete k (.waiting raw)).bytesPerRow = s.bytesPerRow := rfl
@[simp] theorem State.complete_waiting_totalBytes (s : State) (k : Bool) (raw : Str) : (s.complete k (.waiting raw)).totalBytes = s.totalBytes := rfl
@[simp] theorem State.complete_waiting_outLen (s : State) (k : Bool) (raw : Str) : (s.complete k (.waiting raw)).outLen = s.outLen := rfl
@[simp] theorem State.complete_waiting_crc (s : State) (k : Bool) (raw : Str) : (s.complete k (.waiting raw)).crc = s.crc := rfl
@[simp] theorem State.complete_waiting_errInfo (s : State) (k : Bool) (raw : Str) : (s.complete k (.waiting raw)).errInfo = s.errInfo := rfl
@[simp] theorem State.complete_waiting_inSize (s : State) (k : Bool) (raw : Str) : (s.complete k (.waiting raw)).inSize = s.inSize := rfl
@[simp] theorem State.complete_waiting_outSize (s : State) (k : Bool) (raw : Str) : (s.complete k (.waiting raw)).outSize = s.outSize := rfl
@[simp] theorem State.complete_waiting_inRam (s : State) (k : Bool) (raw : Str) : (s.complete k (.waiting raw)).inRam = s.inRam := rfl
@[simp] theorem State.complete_waiting_outRam (s : State) (k : Bool) (raw : Str) : (s.complete k (.waiting raw)).outRam = s.outRam := rfl
@[simp] theorem State.complete_waiting_work (s : State) (k : Bool) (raw : Str) : (s.complete k (.waiting raw)).work = s.work := rfl
@[simp] theorem State.complete_waiting_deflateReq (s : State) (k : Bool) (raw : Str) : (s.complete k (.waiting raw)).deflateReq = some raw := rfl
@[simp] theorem State.complete_waiting_rstN (s : State) (k : Bool) (raw : Str) : (s.complete k (.waiting raw)).rstN = s.rstN := rfl
@[simp] theorem State.complete_waiting_engine (s : State) (k : Bool) (raw : Str) : (s.complete k (.waiting raw)).engine = s.engine := rfl
@[simp] theorem State.complete_waiting_reply (s : State) (k : Bool) (raw : Str) : (s.complete k (.waiting raw)).reply = s.reply := rfl
@[simp] theorem State.complete_waiting_inputs (s : State) (k : Bool) (raw : Str) : (s.complete k (.waiting raw)).inputs = s.inputs := rfl
@[simp] theorem State.complete_waiting_draws (s : State) (k : Bool) (raw : Str) : (s.complete k (.waiting raw)).draws = s.draws := rfl

/-! ### the part common to all resets (10_state.md R50) -/

@[simp] theorem State.resetRegisters_irqEn (s : State) : (s.resetRegisters).irqEn = false := rfl
@[simp] theorem State.resetRegisters_cmd (s : State) : (s.resetRegisters).cmd = 0 := rfl
@[simp] theorem State.resetRegisters_phase (s : State) : (s.resetRegisters).phase = .idle := rfl
@[simp] theorem State.resetRegisters_done (s : State) : (s.resetRegisters).done = false := rfl
@[simp] theorem State.resetRegisters_err (s : State) : (s.resetRegisters).err = false := rfl
@[simp] theorem State.resetRegisters_wdrop (s : State) : (s.resetRegisters).wdrop = false := rfl
@[simp] theorem State.resetRegisters_errCode (s : State) : (s.resetRegisters).errCode = .ok := rfl
@[simp] theorem State.resetRegisters_enc (s : State) : (s.resetRegisters).enc = .hexCompressed := rfl
@[simp] theorem State.resetRegisters_threshold (s : State) : (s.resetRegisters).threshold = 0x80 := rfl
@[simp] theorem State.resetRegisters_width (s : State) : (s.resetRegisters).width = 0 := rfl
@[simp] theorem State.resetRegisters_height (s : State) : (s.resetRegisters).height = 0 := rfl
@[simp] theorem State.resetRegisters_inLen (s : State) : (s.resetRegisters).inLen = 0 := rfl
@[simp] theorem State.resetRegisters_bytesPerRow (s : State) : (s.resetRegisters).bytesPerRow = 0 := rfl
@[simp] theorem State.resetRegisters_totalBytes (s : State) : (s.resetRegisters).totalBytes = 0 := rfl
@[simp] theorem State.resetRegisters_outLen (s : State) : (s.resetRegisters).outLen = 0 := rfl
@[simp] theorem State.resetRegisters_crc (s : State) : (s.resetRegisters).crc = 0 := rfl
@[simp] theorem State.resetRegisters_errInfo (s : State) : (s.resetRegisters).errInfo = 0 := rfl
@[simp] theorem State.resetRegisters_inSize (s : State) : (s.resetRegisters).inSize = s.inSize := rfl
@[simp] theorem State.resetRegisters_outSize (s : State) : (s.resetRegisters).outSize = s.outSize := rfl
@[simp] theorem State.resetRegisters_inRam (s : State) : (s.resetRegisters).inRam = s.inRam := rfl
@[simp] theorem State.resetRegisters_outRam (s : State) : (s.resetRegisters).outRam = s.outRam := rfl
@[simp] theorem State.resetRegisters_work (s : State) : (s.resetRegisters).work = Work.free s.draws := rfl
@[simp] theorem State.resetRegisters_deflateReq (s : State) : (s.resetRegisters).deflateReq = none := rfl
@[simp] theorem State.resetRegisters_rstN (s : State) : (s.resetRegisters).rstN = s.rstN := rfl
@[simp] theorem State.resetRegisters_engine (s : State) : (s.resetRegisters).engine = s.engine := rfl
@[simp] theorem State.resetRegisters_reply (s : State) : (s.resetRegisters).reply = s.reply := rfl
@[simp] theorem State.resetRegisters_inputs (s : State) : (s.resetRegisters).inputs = s.inputs := rfl
@[simp] theorem State.resetRegisters_draws (s : State) : (s.resetRegisters).draws = s.draws + 1 := rfl

/-! ### OUT becoming any value -/

@[simp] theorem State.scrambleOut_irqEn (s : State) : (s.scrambleOut).irqEn = s.irqEn := rfl
@[simp] theorem State.scrambleOut_cmd (s : State) : (s.scrambleOut).cmd = s.cmd := rfl
@[simp] theorem State.scrambleOut_phase (s : State) : (s.scrambleOut).phase = s.phase := rfl
@[simp] theorem State.scrambleOut_done (s : State) : (s.scrambleOut).done = s.done := rfl
@[simp] theorem State.scrambleOut_err (s : State) : (s.scrambleOut).err = s.err := rfl
@[simp] theorem State.scrambleOut_wdrop (s : State) : (s.scrambleOut).wdrop = s.wdrop := rfl
@[simp] theorem State.scrambleOut_errCode (s : State) : (s.scrambleOut).errCode = s.errCode := rfl
@[simp] theorem State.scrambleOut_enc (s : State) : (s.scrambleOut).enc = s.enc := rfl
@[simp] theorem State.scrambleOut_threshold (s : State) : (s.scrambleOut).threshold = s.threshold := rfl
@[simp] theorem State.scrambleOut_width (s : State) : (s.scrambleOut).width = s.width := rfl
@[simp] theorem State.scrambleOut_height (s : State) : (s.scrambleOut).height = s.height := rfl
@[simp] theorem State.scrambleOut_inLen (s : State) : (s.scrambleOut).inLen = s.inLen := rfl
@[simp] theorem State.scrambleOut_bytesPerRow (s : State) : (s.scrambleOut).bytesPerRow = s.bytesPerRow := rfl
@[simp] theorem State.scrambleOut_totalBytes (s : State) : (s.scrambleOut).totalBytes = s.totalBytes := rfl
@[simp] theorem State.scrambleOut_outLen (s : State) : (s.scrambleOut).outLen = s.outLen := rfl
@[simp] theorem State.scrambleOut_crc (s : State) : (s.scrambleOut).crc = s.crc := rfl
@[simp] theorem State.scrambleOut_errInfo (s : State) : (s.scrambleOut).errInfo = s.errInfo := rfl
@[simp] theorem State.scrambleOut_inSize (s : State) : (s.scrambleOut).inSize = s.inSize := rfl
@[simp] theorem State.scrambleOut_outSize (s : State) : (s.scrambleOut).outSize = s.outSize := rfl
@[simp] theorem State.scrambleOut_inRam (s : State) : (s.scrambleOut).inRam = s.inRam := rfl
@[simp] theorem State.scrambleOut_outRam (s : State) : (s.scrambleOut).outRam = Memory.unknown s.draws := rfl
@[simp] theorem State.scrambleOut_work (s : State) : (s.scrambleOut).work = s.work := rfl
@[simp] theorem State.scrambleOut_deflateReq (s : State) : (s.scrambleOut).deflateReq = s.deflateReq := rfl
@[simp] theorem State.scrambleOut_rstN (s : State) : (s.scrambleOut).rstN = s.rstN := rfl
@[simp] theorem State.scrambleOut_engine (s : State) : (s.scrambleOut).engine = s.engine := rfl
@[simp] theorem State.scrambleOut_reply (s : State) : (s.scrambleOut).reply = s.reply := rfl
@[simp] theorem State.scrambleOut_inputs (s : State) : (s.scrambleOut).inputs = s.inputs := rfl
@[simp] theorem State.scrambleOut_draws (s : State) : (s.scrambleOut).draws = s.draws + 1 := rfl

/-! ### the hardware reset (70_reset_and_hazards.md R310) -/

@[simp] theorem State.hardwareReset_irqEn (s : State) : (s.hardwareReset).irqEn = false := rfl
@[simp] theorem State.hardwareReset_cmd (s : State) : (s.hardwareReset).cmd = 0 := rfl
@[simp] theorem State.hardwareReset_phase (s : State) : (s.hardwareReset).phase = .idle := rfl
@[simp] theorem State.hardwareReset_done (s : State) : (s.hardwareReset).done = false := rfl
@[simp] theorem State.hardwareReset_err (s : State) : (s.hardwareReset).err = false := rfl
@[simp] theorem State.hardwareReset_wdrop (s : State) : (s.hardwareReset).wdrop = false := rfl
@[simp] theorem State.hardwareReset_errCode (s : State) : (s.hardwareReset).errCode = .ok := rfl
@[simp] theorem State.hardwareReset_enc (s : State) : (s.hardwareReset).enc = .hexCompressed := rfl
@[simp] theorem State.hardwareReset_threshold (s : State) : (s.hardwareReset).threshold = 0x80 := rfl
@[simp] theorem State.hardwareReset_width (s : State) : (s.hardwareReset).width = 0 := rfl
@[simp] theorem State.hardwareReset_height (s : State) : (s.hardwareReset).height = 0 := rfl
@[simp] theorem State.hardwareReset_inLen (s : State) : (s.hardwareReset).inLen = 0 := rfl
@[simp] theorem State.hardwareReset_bytesPerRow (s : State) : (s.hardwareReset).bytesPerRow = 0 := rfl
@[simp] theorem State.hardwareReset_totalBytes (s : State) : (s.hardwareReset).totalBytes = 0 := rfl
@[simp] theorem State.hardwareReset_outLen (s : State) : (s.hardwareReset).outLen = 0 := rfl
@[simp] theorem State.hardwareReset_crc (s : State) : (s.hardwareReset).crc = 0 := rfl
@[simp] theorem State.hardwareReset_errInfo (s : State) : (s.hardwareReset).errInfo = 0 := rfl
@[simp] theorem State.hardwareReset_inSize (s : State) : (s.hardwareReset).inSize = s.inSize := rfl
@[simp] theorem State.hardwareReset_outSize (s : State) : (s.hardwareReset).outSize = s.outSize := rfl
@[simp] theorem State.hardwareReset_inRam (s : State) : (s.hardwareReset).inRam = Memory.unknown (s.draws + 1) := rfl
@[simp] theorem State.hardwareReset_outRam (s : State) : (s.hardwareReset).outRam = Memory.unknown (s.draws + 2) := rfl
@[simp] theorem State.hardwareReset_work (s : State) : (s.hardwareReset).work = Work.free s.draws := rfl
@[simp] theorem State.hardwareReset_deflateReq (s : State) : (s.hardwareReset).deflateReq = none := rfl
@[simp] theorem State.hardwareReset_rstN (s : State) : (s.hardwareReset).rstN = s.rstN := rfl
@[simp] theorem State.hardwareReset_engine (s : State) : (s.hardwareReset).engine = s.engine := rfl
@[simp] theorem State.hardwareReset_reply (s : State) : (s.hardwareReset).reply = .nothing := rfl
@[simp] theorem State.hardwareReset_inputs (s : State) : (s.hardwareReset).inputs = s.inputs := rfl
@[simp] theorem State.hardwareReset_draws (s : State) : (s.hardwareReset).draws = s.draws + 3 := rfl

/-! ### command acceptance (40_command_protocol.md R111) -/

@[simp] theorem State.accept_irqEn (s : State) (w : Word) : (s.accept w).irqEn = s.irqEn := rfl
@[simp] theorem State.accept_cmd (s : State) (w : Word) : (s.accept w).cmd = w := rfl
@[simp] theorem State.accept_phase (s : State) (w : Word) : (s.accept w).phase = .busy := rfl
@[simp] theorem State.accept_done (s : State) (w : Word) : (s.accept w).done = false := rfl
@[simp] theorem State.accept_err (s : State) (w : Word) : (s.accept w).err = s.err := rfl
@[simp] theorem State.accept_wdrop (s : State) (w : Word) : (s.accept w).wdrop = s.wdrop := rfl
@[simp] theorem State.accept_errCode (s : State) (w : Word) : (s.accept w).errCode = s.errCode := rfl
@[simp] theorem State.accept_enc (s : State) (w : Word) : (s.accept w).enc = s.enc := rfl
@[simp] theorem State.accept_threshold (s : State) (w : Word) : (s.accept w).threshold = s.threshold := rfl
@[simp] theorem State.accept_width (s : State) (w : Word) : (s.accept w).width = s.width := rfl
@[simp] theorem State.accept_height (s : State) (w : Word) : (s.accept w).height = s.height := rfl
@[simp] theorem State.accept_inLen (s : State) (w : Word) : (s.accept w).inLen = s.inLen := rfl
@[simp] theorem State.accept_bytesPerRow (s : State) (w : Word) : (s.accept w).bytesPerRow = s.bytesPerRow := rfl
@[simp] theorem State.accept_totalBytes (s : State) (w : Word) : (s.accept w).totalBytes = s.totalBytes := rfl
@[simp] theorem State.accept_outLen (s : State) (w : Word) : (s.accept w).outLen = s.outLen := rfl
@[simp] theorem State.accept_crc (s : State) (w : Word) : (s.accept w).crc = s.crc := rfl
@[simp] theorem State.accept_errInfo (s : State) (w : Word) : (s.accept w).errInfo = s.errInfo := rfl
@[simp] theorem State.accept_inSize (s : State) (w : Word) : (s.accept w).inSize = s.inSize := rfl
@[simp] theorem State.accept_outSize (s : State) (w : Word) : (s.accept w).outSize = s.outSize := rfl
@[simp] theorem State.accept_inRam (s : State) (w : Word) : (s.accept w).inRam = s.inRam := rfl
@[simp] theorem State.accept_outRam (s : State) (w : Word) : (s.accept w).outRam = s.outRam := rfl
@[simp] theorem State.accept_work (s : State) (w : Word) : (s.accept w).work = s.work := rfl
@[simp] theorem State.accept_deflateReq (s : State) (w : Word) : (s.accept w).deflateReq = s.deflateReq := rfl
@[simp] theorem State.accept_rstN (s : State) (w : Word) : (s.accept w).rstN = s.rstN := rfl
@[simp] theorem State.accept_engine (s : State) (w : Word) : (s.accept w).engine = s.engine := rfl
@[simp] theorem State.accept_reply (s : State) (w : Word) : (s.accept w).reply = s.reply := rfl
@[simp] theorem State.accept_inputs (s : State) (w : Word) : (s.accept w).inputs = s.inputs := rfl
@[simp] theorem State.accept_draws (s : State) (w : Word) : (s.accept w).draws = s.draws := rfl

/-! ### a host write of STATUS (10_state.md R29) -/

@[simp] theorem State.clearStatus_irqEn (s : State) (v : Word) : (s.clearStatus v).irqEn = s.irqEn := rfl
@[simp] theorem State.clearStatus_cmd (s : State) (v : Word) : (s.clearStatus v).cmd = s.cmd := rfl
@[simp] theorem State.clearStatus_phase (s : State) (v : Word) : (s.clearStatus v).phase = s.phase := rfl
@[simp] theorem State.clearStatus_done (s : State) (v : Word) : (s.clearStatus v).done = (s.done && !v.getLsbD 1) := rfl
@[simp] theorem State.clearStatus_err (s : State) (v : Word) : (s.clearStatus v).err = (s.err && !v.getLsbD 2) := rfl
@[simp] theorem State.clearStatus_wdrop (s : State) (v : Word) : (s.clearStatus v).wdrop = (s.wdrop && !v.getLsbD 3) := rfl
@[simp] theorem State.clearStatus_errCode (s : State) (v : Word) : (s.clearStatus v).errCode = s.errCode := rfl
@[simp] theorem State.clearStatus_enc (s : State) (v : Word) : (s.clearStatus v).enc = s.enc := rfl
@[simp] theorem State.clearStatus_threshold (s : State) (v : Word) : (s.clearStatus v).threshold = s.threshold := rfl
@[simp] theorem State.clearStatus_width (s : State) (v : Word) : (s.clearStatus v).width = s.width := rfl
@[simp] theorem State.clearStatus_height (s : State) (v : Word) : (s.clearStatus v).height = s.height := rfl
@[simp] theorem State.clearStatus_inLen (s : State) (v : Word) : (s.clearStatus v).inLen = s.inLen := rfl
@[simp] theorem State.clearStatus_bytesPerRow (s : State) (v : Word) : (s.clearStatus v).bytesPerRow = s.bytesPerRow := rfl
@[simp] theorem State.clearStatus_totalBytes (s : State) (v : Word) : (s.clearStatus v).totalBytes = s.totalBytes := rfl
@[simp] theorem State.clearStatus_outLen (s : State) (v : Word) : (s.clearStatus v).outLen = s.outLen := rfl
@[simp] theorem State.clearStatus_crc (s : State) (v : Word) : (s.clearStatus v).crc = s.crc := rfl
@[simp] theorem State.clearStatus_errInfo (s : State) (v : Word) : (s.clearStatus v).errInfo = s.errInfo := rfl
@[simp] theorem State.clearStatus_inSize (s : State) (v : Word) : (s.clearStatus v).inSize = s.inSize := rfl
@[simp] theorem State.clearStatus_outSize (s : State) (v : Word) : (s.clearStatus v).outSize = s.outSize := rfl
@[simp] theorem State.clearStatus_inRam (s : State) (v : Word) : (s.clearStatus v).inRam = s.inRam := rfl
@[simp] theorem State.clearStatus_outRam (s : State) (v : Word) : (s.clearStatus v).outRam = s.outRam := rfl
@[simp] theorem State.clearStatus_work (s : State) (v : Word) : (s.clearStatus v).work = s.work := rfl
@[simp] theorem State.clearStatus_deflateReq (s : State) (v : Word) : (s.clearStatus v).deflateReq = s.deflateReq := rfl
@[simp] theorem State.clearStatus_rstN (s : State) (v : Word) : (s.clearStatus v).rstN = s.rstN := rfl
@[simp] theorem State.clearStatus_engine (s : State) (v : Word) : (s.clearStatus v).engine = s.engine := rfl
@[simp] theorem State.clearStatus_reply (s : State) (v : Word) : (s.clearStatus v).reply = s.reply := rfl
@[simp] theorem State.clearStatus_inputs (s : State) (v : Word) : (s.clearStatus v).inputs = s.inputs := rfl
@[simp] theorem State.clearStatus_draws (s : State) (v : Word) : (s.clearStatus v).draws = s.draws := rfl

/-! ### a host write of CONFIG (10_state.md R30 to R32) -/

@[simp] theorem State.writeConfig_irqEn (s : State) (v : Word) : (s.writeConfig v).irqEn = s.irqEn := rfl
@[simp] theorem State.writeConfig_cmd (s : State) (v : Word) : (s.writeConfig v).cmd = s.cmd := rfl
@[simp] theorem State.writeConfig_phase (s : State) (v : Word) : (s.writeConfig v).phase = s.phase := rfl
@[simp] theorem State.writeConfig_done (s : State) (v : Word) : (s.writeConfig v).done = s.done := rfl
@[simp] theorem State.writeConfig_err (s : State) (v : Word) : (s.writeConfig v).err = s.err := rfl
@[simp] theorem State.writeConfig_wdrop (s : State) (v : Word) : (s.writeConfig v).wdrop = s.wdrop := rfl
@[simp] theorem State.writeConfig_errCode (s : State) (v : Word) : (s.writeConfig v).errCode = s.errCode := rfl
@[simp] theorem State.writeConfig_enc (s : State) (v : Word) : (s.writeConfig v).enc = EncKind.ofBits (v.extractLsb' 0 2) := rfl
@[simp] theorem State.writeConfig_threshold (s : State) (v : Word) : (s.writeConfig v).threshold = v.extractLsb' 8 8 := rfl
@[simp] theorem State.writeConfig_width (s : State) (v : Word) : (s.writeConfig v).width = s.width := rfl
@[simp] theorem State.writeConfig_height (s : State) (v : Word) : (s.writeConfig v).height = s.height := rfl
@[simp] theorem State.writeConfig_inLen (s : State) (v : Word) : (s.writeConfig v).inLen = s.inLen := rfl
@[simp] theorem State.writeConfig_bytesPerRow (s : State) (v : Word) : (s.writeConfig v).bytesPerRow = s.bytesPerRow := rfl
@[simp] theorem State.writeConfig_totalBytes (s : State) (v : Word) : (s.writeConfig v).totalBytes = s.totalBytes := rfl
@[simp] theorem State.writeConfig_outLen (s : State) (v : Word) : (s.writeConfig v).outLen = s.outLen := rfl
@[simp] theorem State.writeConfig_crc (s : State) (v : Word) : (s.writeConfig v).crc = s.crc := rfl
@[simp] theorem State.writeConfig_errInfo (s : State) (v : Word) : (s.writeConfig v).errInfo = s.errInfo := rfl
@[simp] theorem State.writeConfig_inSize (s : State) (v : Word) : (s.writeConfig v).inSize = s.inSize := rfl
@[simp] theorem State.writeConfig_outSize (s : State) (v : Word) : (s.writeConfig v).outSize = s.outSize := rfl
@[simp] theorem State.writeConfig_inRam (s : State) (v : Word) : (s.writeConfig v).inRam = s.inRam := rfl
@[simp] theorem State.writeConfig_outRam (s : State) (v : Word) : (s.writeConfig v).outRam = s.outRam := rfl
@[simp] theorem State.writeConfig_work (s : State) (v : Word) : (s.writeConfig v).work = s.work := rfl
@[simp] theorem State.writeConfig_deflateReq (s : State) (v : Word) : (s.writeConfig v).deflateReq = s.deflateReq := rfl
@[simp] theorem State.writeConfig_rstN (s : State) (v : Word) : (s.writeConfig v).rstN = s.rstN := rfl
@[simp] theorem State.writeConfig_engine (s : State) (v : Word) : (s.writeConfig v).engine = s.engine := rfl
@[simp] theorem State.writeConfig_reply (s : State) (v : Word) : (s.writeConfig v).reply = s.reply := rfl
@[simp] theorem State.writeConfig_inputs (s : State) (v : Word) : (s.writeConfig v).inputs = s.inputs := rfl
@[simp] theorem State.writeConfig_draws (s : State) (v : Word) : (s.writeConfig v).draws = s.draws := rfl

/-! ### an answer on the host port -/

@[simp] theorem State.answer_irqEn (s : State) (r : BusReply) : (s.answer r).irqEn = s.irqEn := rfl
@[simp] theorem State.answer_cmd (s : State) (r : BusReply) : (s.answer r).cmd = s.cmd := rfl
@[simp] theorem State.answer_phase (s : State) (r : BusReply) : (s.answer r).phase = s.phase := rfl
@[simp] theorem State.answer_done (s : State) (r : BusReply) : (s.answer r).done = s.done := rfl
@[simp] theorem State.answer_err (s : State) (r : BusReply) : (s.answer r).err = s.err := rfl
@[simp] theorem State.answer_wdrop (s : State) (r : BusReply) : (s.answer r).wdrop = s.wdrop := rfl
@[simp] theorem State.answer_errCode (s : State) (r : BusReply) : (s.answer r).errCode = s.errCode := rfl
@[simp] theorem State.answer_enc (s : State) (r : BusReply) : (s.answer r).enc = s.enc := rfl
@[simp] theorem State.answer_threshold (s : State) (r : BusReply) : (s.answer r).threshold = s.threshold := rfl
@[simp] theorem State.answer_width (s : State) (r : BusReply) : (s.answer r).width = s.width := rfl
@[simp] theorem State.answer_height (s : State) (r : BusReply) : (s.answer r).height = s.height := rfl
@[simp] theorem State.answer_inLen (s : State) (r : BusReply) : (s.answer r).inLen = s.inLen := rfl
@[simp] theorem State.answer_bytesPerRow (s : State) (r : BusReply) : (s.answer r).bytesPerRow = s.bytesPerRow := rfl
@[simp] theorem State.answer_totalBytes (s : State) (r : BusReply) : (s.answer r).totalBytes = s.totalBytes := rfl
@[simp] theorem State.answer_outLen (s : State) (r : BusReply) : (s.answer r).outLen = s.outLen := rfl
@[simp] theorem State.answer_crc (s : State) (r : BusReply) : (s.answer r).crc = s.crc := rfl
@[simp] theorem State.answer_errInfo (s : State) (r : BusReply) : (s.answer r).errInfo = s.errInfo := rfl
@[simp] theorem State.answer_inSize (s : State) (r : BusReply) : (s.answer r).inSize = s.inSize := rfl
@[simp] theorem State.answer_outSize (s : State) (r : BusReply) : (s.answer r).outSize = s.outSize := rfl
@[simp] theorem State.answer_inRam (s : State) (r : BusReply) : (s.answer r).inRam = s.inRam := rfl
@[simp] theorem State.answer_outRam (s : State) (r : BusReply) : (s.answer r).outRam = s.outRam := rfl
@[simp] theorem State.answer_work (s : State) (r : BusReply) : (s.answer r).work = s.work := rfl
@[simp] theorem State.answer_deflateReq (s : State) (r : BusReply) : (s.answer r).deflateReq = s.deflateReq := rfl
@[simp] theorem State.answer_rstN (s : State) (r : BusReply) : (s.answer r).rstN = s.rstN := rfl
@[simp] theorem State.answer_engine (s : State) (r : BusReply) : (s.answer r).engine = s.engine := rfl
@[simp] theorem State.answer_reply (s : State) (r : BusReply) : (s.answer r).reply = r := rfl
@[simp] theorem State.answer_inputs (s : State) (r : BusReply) : (s.answer r).inputs = s.inputs := rfl
@[simp] theorem State.answer_draws (s : State) (r : BusReply) : (s.answer r).draws = s.draws := rfl

/-! ### a dropped host write (10_state.md R43) -/

@[simp] theorem State.dropWrite_irqEn (s : State) : (s.dropWrite).irqEn = s.irqEn := rfl
@[simp] theorem State.dropWrite_cmd (s : State) : (s.dropWrite).cmd = s.cmd := rfl
@[simp] theorem State.dropWrite_phase (s : State) : (s.dropWrite).phase = s.phase := rfl
@[simp] theorem State.dropWrite_done (s : State) : (s.dropWrite).done = s.done := rfl
@[simp] theorem State.dropWrite_err (s : State) : (s.dropWrite).err = s.err := rfl
@[simp] theorem State.dropWrite_wdrop (s : State) : (s.dropWrite).wdrop = true := rfl
@[simp] theorem State.dropWrite_errCode (s : State) : (s.dropWrite).errCode = s.errCode := rfl
@[simp] theorem State.dropWrite_enc (s : State) : (s.dropWrite).enc = s.enc := rfl
@[simp] theorem State.dropWrite_threshold (s : State) : (s.dropWrite).threshold = s.threshold := rfl
@[simp] theorem State.dropWrite_width (s : State) : (s.dropWrite).width = s.width := rfl
@[simp] theorem State.dropWrite_height (s : State) : (s.dropWrite).height = s.height := rfl
@[simp] theorem State.dropWrite_inLen (s : State) : (s.dropWrite).inLen = s.inLen := rfl
@[simp] theorem State.dropWrite_bytesPerRow (s : State) : (s.dropWrite).bytesPerRow = s.bytesPerRow := rfl
@[simp] theorem State.dropWrite_totalBytes (s : State) : (s.dropWrite).totalBytes = s.totalBytes := rfl
@[simp] theorem State.dropWrite_outLen (s : State) : (s.dropWrite).outLen = s.outLen := rfl
@[simp] theorem State.dropWrite_crc (s : State) : (s.dropWrite).crc = s.crc := rfl
@[simp] theorem State.dropWrite_errInfo (s : State) : (s.dropWrite).errInfo = s.errInfo := rfl
@[simp] theorem State.dropWrite_inSize (s : State) : (s.dropWrite).inSize = s.inSize := rfl
@[simp] theorem State.dropWrite_outSize (s : State) : (s.dropWrite).outSize = s.outSize := rfl
@[simp] theorem State.dropWrite_inRam (s : State) : (s.dropWrite).inRam = s.inRam := rfl
@[simp] theorem State.dropWrite_outRam (s : State) : (s.dropWrite).outRam = s.outRam := rfl
@[simp] theorem State.dropWrite_work (s : State) : (s.dropWrite).work = s.work := rfl
@[simp] theorem State.dropWrite_deflateReq (s : State) : (s.dropWrite).deflateReq = s.deflateReq := rfl
@[simp] theorem State.dropWrite_rstN (s : State) : (s.dropWrite).rstN = s.rstN := rfl
@[simp] theorem State.dropWrite_engine (s : State) : (s.dropWrite).engine = s.engine := rfl
@[simp] theorem State.dropWrite_reply (s : State) : (s.dropWrite).reply = .done := rfl
@[simp] theorem State.dropWrite_inputs (s : State) : (s.dropWrite).inputs = s.inputs := rfl
@[simp] theorem State.dropWrite_draws (s : State) : (s.dropWrite).draws = s.draws := rfl

/-! ### the read of a free value -/

@[simp] theorem State.answerFree_irqEn (s : State) (w : Width) : (s.answerFree w).irqEn = s.irqEn := rfl
@[simp] theorem State.answerFree_cmd (s : State) (w : Width) : (s.answerFree w).cmd = s.cmd := rfl
@[simp] theorem State.answerFree_phase (s : State) (w : Width) : (s.answerFree w).phase = s.phase := rfl
@[simp] theorem State.answerFree_done (s : State) (w : Width) : (s.answerFree w).done = s.done := rfl
@[simp] theorem State.answerFree_err (s : State) (w : Width) : (s.answerFree w).err = s.err := rfl
@[simp] theorem State.answerFree_wdrop (s : State) (w : Width) : (s.answerFree w).wdrop = s.wdrop := rfl
@[simp] theorem State.answerFree_errCode (s : State) (w : Width) : (s.answerFree w).errCode = s.errCode := rfl
@[simp] theorem State.answerFree_enc (s : State) (w : Width) : (s.answerFree w).enc = s.enc := rfl
@[simp] theorem State.answerFree_threshold (s : State) (w : Width) : (s.answerFree w).threshold = s.threshold := rfl
@[simp] theorem State.answerFree_width (s : State) (w : Width) : (s.answerFree w).width = s.width := rfl
@[simp] theorem State.answerFree_height (s : State) (w : Width) : (s.answerFree w).height = s.height := rfl
@[simp] theorem State.answerFree_inLen (s : State) (w : Width) : (s.answerFree w).inLen = s.inLen := rfl
@[simp] theorem State.answerFree_bytesPerRow (s : State) (w : Width) : (s.answerFree w).bytesPerRow = s.bytesPerRow := rfl
@[simp] theorem State.answerFree_totalBytes (s : State) (w : Width) : (s.answerFree w).totalBytes = s.totalBytes := rfl
@[simp] theorem State.answerFree_outLen (s : State) (w : Width) : (s.answerFree w).outLen = s.outLen := rfl
@[simp] theorem State.answerFree_crc (s : State) (w : Width) : (s.answerFree w).crc = s.crc := rfl
@[simp] theorem State.answerFree_errInfo (s : State) (w : Width) : (s.answerFree w).errInfo = s.errInfo := rfl
@[simp] theorem State.answerFree_inSize (s : State) (w : Width) : (s.answerFree w).inSize = s.inSize := rfl
@[simp] theorem State.answerFree_outSize (s : State) (w : Width) : (s.answerFree w).outSize = s.outSize := rfl
@[simp] theorem State.answerFree_inRam (s : State) (w : Width) : (s.answerFree w).inRam = s.inRam := rfl
@[simp] theorem State.answerFree_outRam (s : State) (w : Width) : (s.answerFree w).outRam = s.outRam := rfl
@[simp] theorem State.answerFree_work (s : State) (w : Width) : (s.answerFree w).work = s.work := rfl
@[simp] theorem State.answerFree_deflateReq (s : State) (w : Width) : (s.answerFree w).deflateReq = s.deflateReq := rfl
@[simp] theorem State.answerFree_rstN (s : State) (w : Width) : (s.answerFree w).rstN = s.rstN := rfl
@[simp] theorem State.answerFree_engine (s : State) (w : Width) : (s.answerFree w).engine = s.engine := rfl
@[simp] theorem State.answerFree_inputs (s : State) (w : Width) : (s.answerFree w).inputs = s.inputs := rfl
@[simp] theorem State.answerFree_draws (s : State) (w : Width) : (s.answerFree w).draws = s.draws + 1 := rfl

end Sys2Proof.Machine
end

