-- ==== Sys2Proof/Laws/Bus.lean ====
section
/-! SUPPORT. What a host access reaches and what each access does there, said once per window of the address map (20_memory.md R61). -/

namespace Sys2Proof.Machine

/-- STATUS.BUSY mirrors the phase (10_state.md R45). -/
theorem busy_of_busy {s : State} (h : s.phase = .busy) : s.busy = true := by simp [State.busy, h]

theorem busy_of_idle {s : State} (h : s.phase = .idle) : s.busy = false := by simp [State.busy, h]

/-- Everything `busTarget` can answer (20_memory.md R61). -/
theorem busTarget_cases (w : Width) (a i o : Nat) :
    (w = .w32 ∧ a < 0x1000 ∧ a % 4 = 0 ∧ busTarget w a i o = .register (regAt a)) ∨
    (0x1000000 ≤ a ∧ a < 0x2000000 ∧ ramReachable w (a - 0x1000000) i ∧ busTarget w a i o = .inRam (a - 0x1000000)) ∨
    (0x2000000 ≤ a ∧ a < 0x3000000 ∧ ramReachable w (a - 0x2000000) o ∧ busTarget w a i o = .outRam (a - 0x2000000)) ∨
    (busTarget w a i o = .nothing ∧ ¬(w = .w32 ∧ a < 0x1000 ∧ a % 4 = 0) ∧
      ¬(0x1000000 ≤ a ∧ a < 0x2000000 ∧ ramReachable w (a - 0x1000000) i) ∧
      ¬(0x2000000 ≤ a ∧ a < 0x3000000 ∧ ramReachable w (a - 0x2000000) o)) := by
  unfold busTarget
  split
  · split
    · rename_i h1 h2; exact .inl ⟨h2.1, h1, h2.2, rfl⟩
    · rename_i h1 h2
      exact .inr (.inr (.inr ⟨rfl, fun h => h2 ⟨h.1, h.2.2⟩, by omega, by omega⟩))
  · split
    · split
      · rename_i h2 h3; exact .inr (.inl ⟨h2.1, h2.2, h3, rfl⟩)
      · rename_i h2 h3
        exact .inr (.inr (.inr ⟨rfl, by omega, fun h => h3 h.2.2, by omega⟩))
    · split
      · split
        · rename_i h2 h3; exact .inr (.inr (.inl ⟨h2.1, h2.2, h3, rfl⟩))
        · rename_i h2 h3
          exact .inr (.inr (.inr ⟨rfl, by omega, by omega, fun h => h3 h.2.2⟩))
      · exact .inr (.inr (.inr ⟨rfl, by omega, by omega, by omega⟩))

theorem target_register (s : State) {addr : Addr} (h : addr.toNat < 0x1000) (h4 : addr.toNat % 4 = 0) :
    s.target .w32 addr = .register (regAt addr.toNat) := by
  rcases busTarget_cases .w32 addr.toNat s.inSize.toNat s.outSize.toNat with h' | h' | h' | h'
  · exact h'.2.2.2
  · omega
  · omega
  · exact absurd ⟨rfl, h, h4⟩ h'.2.1

/-- An access that reaches a register is a 32-bit one at that register's aligned offset (20_memory.md R66). -/
theorem target_register_inv {s : State} {w : Width} {addr : Addr} {r : Reg} (h : s.target w addr = .register r) :
    w = .w32 ∧ addr.toNat < 0x1000 ∧ addr.toNat % 4 = 0 ∧ r = regAt addr.toNat := by
  unfold State.target at h
  rcases busTarget_cases w addr.toNat s.inSize.toNat s.outSize.toNat with h' | h' | h' | h'
  · rw [h'.2.2.2] at h; exact ⟨h'.1, h'.2.1, h'.2.2.1, (Target.register.inj h).symm⟩
  · rw [h'.2.2.2] at h; simp at h
  · rw [h'.2.2.2] at h; simp at h
  · rw [h'.1] at h; simp at h

theorem regAt_ctrl_inv {a : Nat} (h4 : a % 4 = 0) (h : regAt a = .ctrl) : a = 4 := by
  unfold regAt at h
  split at h <;> first | omega | simp at h

theorem regAt_cmd_inv {a : Nat} (h4 : a % 4 = 0) (h : regAt a = .cmd) : a = 8 := by
  unfold regAt at h
  split at h <;> first | omega | simp at h

theorem target_inRam (s : State) {w : Width} {a : Nat} (h : RamAccess w a s.inSize.toNat) :
    s.target w (BitVec.ofNat 26 (0x1000000 + a)) = .inRam a := by
  obtain ⟨h1, h2, h3⟩ := h
  have e : (BitVec.ofNat 26 (0x1000000 + a)).toNat = 0x1000000 + a := by simp; omega
  have e2 : 0x1000000 + a - 0x1000000 = a := by omega
  unfold State.target
  rw [e]
  rcases busTarget_cases w (0x1000000 + a) s.inSize.toNat s.outSize.toNat with h' | h' | h' | h'
  · omega
  · rw [h'.2.2.2, e2]
  · omega
  · exact absurd ⟨by omega, by omega, by rw [e2]; exact ⟨h2, h3⟩⟩ h'.2.2.1

theorem target_outRam (s : State) {w : Width} {a : Nat} (h : RamAccess w a s.outSize.toNat) :
    s.target w (BitVec.ofNat 26 (0x2000000 + a)) = .outRam a := by
  obtain ⟨h1, h2, h3⟩ := h
  have e : (BitVec.ofNat 26 (0x2000000 + a)).toNat = 0x2000000 + a := by simp; omega
  have e2 : 0x2000000 + a - 0x2000000 = a := by omega
  unfold State.target
  rw [e]
  rcases busTarget_cases w (0x2000000 + a) s.inSize.toNat s.outSize.toNat with h' | h' | h' | h'
  · omega
  · omega
  · rw [h'.2.2.2, e2]
  · exact absurd ⟨by omega, by omega, by rw [e2]; exact ⟨h2, h3⟩⟩ h'.2.2.2

/-- An access that reaches IN is aligned and within its implemented bytes (20_memory.md R62, R67). -/
theorem target_inRam_inv {s : State} {w : Width} {addr : Addr} {a : Nat} (h : s.target w addr = .inRam a) :
    RamAccess w a s.inSize.toNat := by
  unfold State.target at h
  rcases busTarget_cases w addr.toNat s.inSize.toNat s.outSize.toNat with h' | h' | h' | h'
  · rw [h'.2.2.2] at h; simp at h
  · obtain ⟨h1, h2, h3, h4⟩ := h'
    rw [h4] at h
    have e := Target.inRam.inj h
    subst e
    exact ⟨by omega, h3.1, h3.2⟩
  · rw [h'.2.2.2] at h; simp at h
  · rw [h'.1] at h; simp at h

theorem access_in_reset {s : State} (h : s.rstN = false) (x : Access) : s.access x = s.answer .error := by
  simp [State.access, h]

theorem access_writeReg {s : State} (hr : s.rstN = true) {addr : Addr} (h : addr.toNat < 0x1000)
    (h4 : addr.toNat % 4 = 0) (v : Word) :
    s.access (.write .w32 addr v) =
      if s.busy && isDroppedReg (regAt addr.toNat) then s.dropWrite
      else (s.writeReg v (regAt addr.toNat)).answer .done := by
  simp only [State.access, hr, if_true, State.hostWrite, target_register s h h4]

theorem access_readReg {s : State} (hr : s.rstN = true) {addr : Addr} (h : addr.toNat < 0x1000)
    (h4 : addr.toNat % 4 = 0) :
    s.access (.read .w32 addr) =
      if s.busy && isResultReg (regAt addr.toNat) then s.answerFree .w32
      else s.answer (.data (s.readReg (regAt addr.toNat))) := by
  simp only [State.access, hr, if_true, State.hostRead, target_register s h h4]

theorem access_writeIn {s : State} (hr : s.rstN = true) {w : Width} {a : Nat} (h : RamAccess w a s.inSize.toNat)
    (v : Word) :
    s.access (.write w (BitVec.ofNat 26 (0x1000000 + a)) v) =
      if s.busy then s.dropWrite
      else ({ s with inRam := s.inRam.writeBytes a (bytesOfWord v (widthBytes w)) } : State).answer .done := by
  simp only [State.access, hr, if_true, State.hostWrite, target_inRam s h]

theorem access_readIn {s : State} (hr : s.rstN = true) {w : Width} {a : Nat} (h : RamAccess w a s.inSize.toNat) :
    s.access (.read w (BitVec.ofNat 26 (0x1000000 + a))) =
      s.answer (.data (wordOfBytes (s.inRam.readBytes a (widthBytes w)))) := by
  simp only [State.access, hr, if_true, State.hostRead, target_inRam s h]

theorem access_readOut {s : State} (hr : s.rstN = true) {w : Width} {a : Nat} (h : RamAccess w a s.outSize.toNat) :
    s.access (.read w (BitVec.ofNat 26 (0x2000000 + a))) =
      if s.busy then s.answerFree w else s.answer (.data (wordOfBytes (s.outRam.readBytes a (widthBytes w)))) := by
  simp only [State.access, hr, if_true, State.hostRead, target_outRam s h]

theorem softReset_idle {s : State} (h : s.phase = .idle) : s.softReset = s.resetRegisters := by
  simp [State.softReset, h]

theorem softReset_busy {s : State} (h : s.phase = .busy) : s.softReset = s.resetRegisters.scrambleOut := by
  simp [State.softReset, h]

/-- A CTRL write is never dropped (10_state.md R25, R43). -/
theorem access_writeCtrl {s : State} (hr : s.rstN = true) (v : Word) :
    s.access (.write .w32 0x04 v) = (s.writeCtrl v).answer .done := by
  rw [access_writeReg hr (by decide) (by decide)]
  cases s.busy <;> rfl

/-- A STATUS write is never dropped (10_state.md R29, R43). -/
theorem access_writeStatus {s : State} (hr : s.rstN = true) (v : Word) :
    s.access (.write .w32 0x0C v) = (s.clearStatus v).answer .done := by
  rw [access_writeReg hr (by decide) (by decide)]
  cases s.busy <;> rfl

end Sys2Proof.Machine
end

