-- ==== Sys2Proof/Laws/Memory.lean ====
section
/-! SUPPORT. The laws of a RAM: what a write, a string placement and a fresh RAM hold, and that each keeps the canonical form. -/

namespace Sys2Proof.Machine

theorem lookup_cell (b k : Nat) (u : Byte) (cs : List Host.Cell) :
    List.lookup b ((k, u) :: cs) = if b = k then some u else List.lookup b cs := by
  by_cases h : b = k
  · subst h; simp [List.lookup]
  · have : (b == k) = false := by simp [h]
    simp [List.lookup, this, h]

theorem insertCell_lookup (a b : Nat) (v : Byte) (cs : List Host.Cell) :
    (insertCell a v cs).lookup b = if b = a then some v else cs.lookup b := by
  induction cs with
  | nil => simp [insertCell, lookup_cell]
  | cons c cs ih =>
    obtain ⟨k, u⟩ := c
    rw [insertCell]
    by_cases h1 : a < k
    · simp [h1, lookup_cell]
    · by_cases h2 : a = k
      · subst h2; simp only [lookup_cell, lt_irrefl, if_true, if_false]; split_ifs <;> rfl
      · simp only [h1, h2, if_false, lookup_cell, ih]
        split_ifs with h3 h4 <;> first | rfl | omega

theorem insertCell_mem {a : Nat} {v : Byte} {cs : List Host.Cell} {c : Host.Cell} (h : c ∈ insertCell a v cs) :
    c = (a, v) ∨ c ∈ cs := by
  induction cs with
  | nil => simpa [insertCell] using h
  | cons d cs ih =>
    unfold insertCell at h
    split_ifs at h
    · simpa using h
    · simp only [List.mem_cons] at h ⊢; tauto
    · simp only [List.mem_cons] at h ⊢
      rcases h with h | h
      · exact .inr (.inl h)
      · rcases ih h with h | h
        · exact .inl h
        · exact .inr (.inr h)

theorem insertCell_rising {a : Nat} {v : Byte} {cs : List Host.Cell}
    (h : cs.Pairwise fun x y => x.1 < y.1) : (insertCell a v cs).Pairwise fun x y => x.1 < y.1 := by
  induction cs with
  | nil => simp [insertCell]
  | cons d cs ih =>
    have hd := List.pairwise_cons.1 h
    unfold insertCell
    split_ifs with h1 h2
    · refine List.pairwise_cons.2 ⟨fun y hy => ?_, h⟩
      rcases List.mem_cons.1 hy with rfl | hy
      · exact h1
      · exact h1.trans (hd.1 y hy)
    · exact List.pairwise_cons.2 ⟨fun y hy => by simpa [h2] using hd.1 y hy, hd.2⟩
    · refine List.pairwise_cons.2 ⟨fun y hy => ?_, ih hd.2⟩
      rcases insertCell_mem hy with rfl | hy
      · simp only; omega
      · exact hd.1 y hy

/-- What a write holds: the byte at its offset, and everything else as before. -/
theorem Memory.held_write (m : Memory) (a b : Nat) (v : Byte) :
    (m.write a v).held b = if b = a then some v else m.held b := insertCell_lookup a b v m.cells

@[simp] theorem Memory.draw_write (m : Memory) (a : Nat) (v : Byte) : (m.write a v).draw = m.draw := rfl

/-- A read after a write: the byte written, or what was there. -/
theorem Memory.read_write (m : Memory) (a b : Nat) (v : Byte) :
    (m.write a v).read b = if b = a then v else m.read b := by
  unfold Memory.read
  rw [Memory.held_write]
  split_ifs <;> simp

theorem Memory.wf_write {m : Memory} (h : m.wf) (a : Nat) (v : Byte) : (m.write a v).wf := insertCell_rising h

/-- A read after a multi-byte write (20_memory.md R65). -/
theorem Memory.read_writeBytes (m : Memory) (a b : Nat) (bs : Str) :
    (m.writeBytes a bs).read b = if h : a ≤ b ∧ b < a + bs.length then bs[b - a]'(by omega) else m.read b := by
  induction bs generalizing m a with
  | nil => simp [Memory.writeBytes]
  | cons v bs ih =>
    rw [Memory.writeBytes, ih]
    by_cases h1 : a + 1 ≤ b ∧ b < a + 1 + bs.length
    · have h2 : a ≤ b ∧ b < a + (v :: bs).length := by simp only [List.length_cons]; omega
      rw [dif_pos h1, dif_pos h2]
      have h3 : b - a = (b - (a + 1)) + 1 := by omega
      simp [h3]
    · rw [dif_neg h1, Memory.read_write]
      by_cases h2 : b = a
      · subst h2; simp
      · have h3 : ¬(a ≤ b ∧ b < a + (v :: bs).length) := by simp only [List.length_cons]; omega
        rw [if_neg h2, dif_neg h3]

theorem Memory.wf_writeBytes {m : Memory} (h : m.wf) (a : Nat) (bs : Str) : (m.writeBytes a bs).wf := by
  induction bs generalizing m a with
  | nil => exact h
  | cons b bs ih => exact ih (Memory.wf_write h a b) (a + 1)

theorem Memory.mem_writeBytes {m : Memory} {a : Nat} {bs : Str} {c : Host.Cell} (h : c ∈ (m.writeBytes a bs).cells) :
    (a ≤ c.1 ∧ c.1 < a + bs.length) ∨ c ∈ m.cells := by
  induction bs generalizing m a with
  | nil => exact .inr h
  | cons b bs ih =>
    rcases ih h with h | h
    · exact .inl (by simp only [List.length_cons]; omega)
    · rcases insertCell_mem h with rfl | h
      · exact .inl (by simp)
      · exact .inr h

theorem cellsFrom_lookup (a b : Nat) (t : Str) :
    (cellsFrom a t).lookup b = if a ≤ b then t[b - a]? else none := by
  induction t generalizing a with
  | nil => simp [cellsFrom]
  | cons v t ih =>
    rw [cellsFrom, List.lookup_cons]
    by_cases h : b = a
    · subst h; simp
    · have hb : (b == a) = false := by simp [h]
      rw [hb, ih]
      by_cases h1 : a ≤ b
      · have h2 : b - a = (b - (a + 1)) + 1 := by omega
        simp [h1, h2, show a + 1 ≤ b by omega]
      · simp [h1, show ¬ a + 1 ≤ b by omega]

theorem cellsFrom_mem {a : Nat} {t : Str} {c : Host.Cell} (h : c ∈ cellsFrom a t) : a ≤ c.1 ∧ c.1 < a + t.length := by
  induction t generalizing a with
  | nil => simp [cellsFrom] at h
  | cons v t ih =>
    rw [cellsFrom, List.mem_cons] at h
    rcases h with rfl | h
    · simp
    · have := ih h; simp only [List.length_cons]; omega

theorem cellsFrom_rising (a : Nat) (t : Str) : (cellsFrom a t).Pairwise fun x y => x.1 < y.1 := by
  induction t generalizing a with
  | nil => simp [cellsFrom]
  | cons v t ih => exact List.pairwise_cons.2 ⟨fun y hy => (cellsFrom_mem hy).1, ih (a + 1)⟩

/-- A placed string holds its bytes and no others (20_memory.md R74). -/
theorem Memory.held_ofString (d : Nat) (t : Str) (a : Nat) : (Memory.ofString d t).held a = t[a]? := by
  simp [Memory.held, Memory.ofString, cellsFrom_lookup]

theorem Memory.wf_ofString (d : Nat) (t : Str) : (Memory.ofString d t).wf := cellsFrom_rising 0 t

@[simp] theorem Memory.held_unknown (d a : Nat) : (Memory.unknown d).held a = none := rfl

theorem Memory.wf_unknown (d : Nat) : (Memory.unknown d).wf := List.Pairwise.nil

@[simp] theorem Memory.length_readBytes (m : Memory) (a n : Nat) : (m.readBytes a n).length = n := by
  induction n generalizing a with
  | zero => rfl
  | succ n ih => simp [Memory.readBytes, ih]

theorem Memory.getElem_readBytes (m : Memory) (a n i : Nat) (h : i < (m.readBytes a n).length) :
    (m.readBytes a n)[i] = m.read (a + i) := by
  induction n generalizing a i with
  | zero => simp at h
  | succ n ih =>
    cases i with
    | zero => simp [Memory.readBytes]
    | succ i =>
      simp only [Memory.readBytes, List.getElem_cons_succ]
      rw [ih]; congr 1; omega

/-- The bytes of a placed string read back as the string (20_memory.md R74). -/
theorem Memory.readBytes_ofString (d : Nat) (t : Str) : (Memory.ofString d t).readBytes 0 t.length = t := by
  apply List.ext_getElem (by simp)
  intro i h1 h2
  rw [Memory.getElem_readBytes]
  simp [Memory.read, Memory.held_ofString, h2]

end Sys2Proof.Machine
end

