-- ==== Sys2Proof/Laws/Complete.lean ====
section
/-! SUPPORT. What the shared operations of a completion can do, said once: the region checks, the output-size check, and the completion step. -/

namespace Sys2Proof.Machine

@[simp] theorem ramBytes_of_eq {s t : State} (h : t.inRam = s.inRam) (a : Nat) : t.inByte a = s.inByte a := by
  simp [State.inByte, h]

theorem SameInputs.refl (s : State) : SameInputs s s := by simp [SameInputs]

theorem SameInputs.trans {s t u : State} (h : SameInputs s t) (k : SameInputs t u) : SameInputs s u := by
  obtain ⟨⟨a1, a2, a3, a4, a5, a6, a7, a8⟩, ⟨b1, b2, b3, b4, b5, b6⟩, c⟩ := h
  obtain ⟨⟨d1, d2, d3, d4, d5, d6, d7, d8⟩, ⟨e1, e2, e3, e4, e5, e6⟩, f⟩ := k
  exact ⟨⟨d1.trans a1, d2.trans a2, d3.trans a3, d4.trans a4, d5.trans a5, d6.trans a6, d7.trans a7, d8.trans a8⟩,
    ⟨e1.trans b1, e2.trans b2, e3.trans b3, e4.trans b4, e5.trans b5, e6.trans b6⟩, fun x => (f x).trans (c x)⟩

theorem State.apply_sameInputs (s : State) (e : Effect) : SameInputs s (s.apply e) := by
  cases e <;> exact ⟨⟨rfl, rfl, rfl, rfl, rfl, rfl, rfl, rfl⟩, ⟨rfl, rfl, rfl, rfl, rfl, rfl⟩, fun _ => rfl⟩

theorem State.applyAll_sameInputs (s : State) (es : List Effect) : SameInputs s (s.applyAll es) := by
  induction es generalizing s with
  | nil => exact SameInputs.refl s
  | cons e es ih => exact (State.apply_sameInputs s e).trans (ih _)

theorem State.finish_sameInputs (s : State) (code : ErrCode) (info : Word) : SameInputs s (s.finish code info) :=
  ⟨⟨rfl, rfl, rfl, rfl, rfl, rfl, rfl, rfl⟩, ⟨rfl, rfl, rfl, rfl, rfl, rfl⟩, fun _ => rfl⟩

theorem State.errorCompletion_sameInputs (s : State) (k : Bool) (code : ErrCode) (info : Word) :
    SameInputs s (s.errorCompletion k code info) :=
  ⟨⟨rfl, rfl, rfl, rfl, rfl, rfl, rfl, rfl⟩, ⟨rfl, rfl, rfl, rfl, rfl, rfl⟩, fun _ => rfl⟩

/-- No completion step writes an input (60_exceptions.md R290, 20_memory.md R63). -/
theorem State.complete_sameInputs (s : State) (k : Bool) (r : CmdResult) : SameInputs s (s.complete k r) := by
  cases r with
  | ok es => exact (State.applyAll_sameInputs s es).trans (State.finish_sameInputs _ _ _)
  | error code info => exact State.errorCompletion_sameInputs s k code info
  | waiting raw => exact ⟨⟨rfl, rfl, rfl, rfl, rfl, rfl, rfl, rfl⟩, ⟨rfl, rfl, rfl, rfl, rfl, rfl⟩, fun _ => rfl⟩

@[simp] theorem State.applyAll_err (s : State) (es : List Effect) : (s.applyAll es).err = s.err := by
  induction es generalizing s with
  | nil => rfl
  | cons e es ih => rw [State.applyAll, ih]; cases e <;> rfl

@[simp] theorem State.applyAll_nil (s : State) : s.applyAll [] = s := rfl

@[simp] theorem State.applyAll_cons (s : State) (e : Effect) (es : List Effect) :
    s.applyAll (e :: es) = (s.apply e).applyAll es := rfl

@[simp] theorem State.complete_ok (s : State) (k : Bool) (es : List Effect) :
    s.complete k (.ok es) = (s.applyAll es).finish .ok 0 := rfl

@[simp] theorem State.complete_error (s : State) (k : Bool) (code : ErrCode) (info : Word) :
    s.complete k (.error code info) = s.errorCompletion k code info := rfl

/-- A command that succeeds completes with code OK and ERR_INFO 0 (40_command_protocol.md R114). -/
theorem State.complete_ok_completed (s : State) (k : Bool) (es : List Effect) : Completed .ok 0 s (s.complete k (.ok es)) := by
  simp [Completed]

/-- A command that fails does what 60_exceptions.md R290 says. -/
theorem State.complete_error_failedWith (s : State) (k : Bool) (code : ErrCode) (info : Word) :
    FailedWith code info s (s.complete k (.error code info)) :=
  ⟨⟨rfl, rfl, rfl, rfl, rfl, rfl⟩, rfl, rfl, rfl, rfl, State.errorCompletion_sameInputs s k code info⟩

/-- An Illegal word and a failing CRC16 leave OUT unchanged (60_exceptions.md R290). -/
theorem State.complete_error_keeps_out (s : State) (code : ErrCode) (info : Word) :
    SameOut s (s.complete true (.error code info)) := fun _ => rfl

theorem withPixelRegion_fits {s : State} {k : CmdResult} (h : s.pixelBytes ≤ s.inSize.toNat) : withPixelRegion s k = k := by
  simp [withPixelRegion, Nat.not_lt.2 h]

theorem withPixelRegion_absent {s : State} {k : CmdResult} (h : s.inSize.toNat < s.pixelBytes) :
    withPixelRegion s k = .error .invalidInput (sat32 s.pixelBytes) := by
  simp [withPixelRegion, h]

theorem withInput_fits {s : State} {k : Str → CmdResult} (h : s.inLen.toNat ≤ s.inSize.toNat) :
    withInput s k = k (s.inString s.inLen.toNat) := by
  simp [withInput, Nat.not_lt.2 h]

theorem withInput_absent {s : State} {k : Str → CmdResult} (h : s.inSize.toNat < s.inLen.toNat) :
    withInput s k = .error .invalidInput (sat32 s.inLen.toNat) := by
  simp [withInput, h]

theorem emitOut_fits {s : State} {p : Str} {more : List Effect} (h : p.length ≤ s.outSize.toNat) :
    emitOut s p more = .ok ([.out p, .outLen p.length] ++ more) := by
  simp [emitOut, Nat.not_lt.2 h]

theorem emitOut_overflows {s : State} {p : Str} {more : List Effect} (h : s.outSize.toNat < p.length) :
    emitOut s p more = .error .outputOverflow (sat32 p.length) := by
  simp [emitOut, h]

theorem toNat_ofNat_le_word {n : Nat} {w : Word} (h : n ≤ w.toNat) : (BitVec.ofNat 32 n).toNat = n := by
  have := w.isLt
  simp only [BitVec.toNat_ofNat]
  omega

/-- What OUT and OUT_LEN hold after a string was put there and only other registers were written (20_memory.md R74). -/
theorem complete_emit_produced {s : State} {k : Bool} {p : Str} {more : List Effect}
    (hm : ∀ e ∈ more, (∃ n, e = .bytesPerRow n) ∨ (∃ n, e = .totalBytes n) ∨ (∃ c, e = .crc c))
    (h : p.length ≤ s.outSize.toNat) : Produced p s (s.complete k (emitOut s p more)) := by
  rw [emitOut_fits h]
  have keep : ∀ (es : List Effect) (t : State),
      (∀ e ∈ es, (∃ n, e = .bytesPerRow n) ∨ (∃ n, e = .totalBytes n) ∨ (∃ c, e = .crc c)) →
      (t.applyAll es).outLen = t.outLen ∧ (t.applyAll es).outRam = t.outRam := by
    intro es
    induction es with
    | nil => intro t _; exact ⟨rfl, rfl⟩
    | cons e es ih =>
      intro t ht
      have h1 := ih (t.apply e) fun x hx => ht x (List.mem_cons_of_mem _ hx)
      rw [State.applyAll_cons]
      rcases ht e List.mem_cons_self with ⟨n, rfl⟩ | ⟨n, rfl⟩ | ⟨c, rfl⟩ <;> exact h1
  have hk := keep more ((s.apply (.out p)).apply (.outLen p.length)) hm
  refine ⟨State.complete_ok_completed s k _, ?_, ?_, State.complete_sameInputs s k _⟩
  · simp only [State.complete_ok, List.cons_append, List.nil_append, State.applyAll_cons, State.finish_outLen, hk.1,
      State.apply_outLen_outLen]
    exact toNat_ofNat_le_word h
  · simp only [State.complete_ok, List.cons_append, List.nil_append, State.applyAll_cons, State.outString,
      State.finish_outRam, hk.2, State.apply_outLen_outRam, State.apply_out_outRam]
    exact Memory.readBytes_ofString _ p

end Sys2Proof.Machine
end

