-- ==== Sys2Proof/Laws/PerInstr.lean ====
section
/-! SUPPORT. Statements made per command, about the command as syntax. -/

namespace Sys2Proof

/-- The command's word is a legal one: RSV is 0 and OP is one of the eight opcodes (30_encoding.md R90, R93). -/
def Laws.EncodesLegally.Statement (i : Instr) : Prop := WellFormed.word (encode i) = true ∧ WellFormed.instr i = true

theorem Laws.EncodesLegally.nop : Laws.EncodesLegally.Statement .nop := ⟨by decide, rfl⟩

theorem Laws.EncodesLegally.encode : Laws.EncodesLegally.Statement .encode := ⟨by decide, rfl⟩

theorem Laws.EncodesLegally.pack : Laws.EncodesLegally.Statement .pack := ⟨by decide, rfl⟩

theorem Laws.EncodesLegally.compress : Laws.EncodesLegally.Statement .compress := ⟨by decide, rfl⟩

theorem Laws.EncodesLegally.frameB64 : Laws.EncodesLegally.Statement .frameB64 := ⟨by decide, rfl⟩

theorem Laws.EncodesLegally.frameZ64 : Laws.EncodesLegally.Statement .frameZ64 := ⟨by decide, rfl⟩

theorem Laws.EncodesLegally.base64 : Laws.EncodesLegally.Statement .base64 := ⟨by decide, rfl⟩

theorem Laws.EncodesLegally.crc16 : Laws.EncodesLegally.Statement .crc16 := ⟨by decide, rfl⟩

end Sys2Proof
end

