-- ==== Sys2Proof/Laws/Step.lean ====
section
/-! SUPPORT. What one step, one sequencer turn and one host access can do, said once. -/

namespace Sys2Proof.Machine

/-- Every command answers a next state: the completion of what its `exec` returned. -/
theorem exec_eq_complete (i : Instr) (s : State) : ∃ k r, exec i s = .next (s.complete k r) := by
  cases i <;> exact ⟨_, _, rfl⟩

/-- The sequencer's turn: nothing, a command's completion, or an illegal word's. -/
theorem sequencerTurn_cases (s : State) :
    (¬(s.busy = true ∧ s.rstN = true) ∧ sequencerTurn s = .next s) ∨
    (s.busy = true ∧ s.rstN = true ∧ ∃ i, decode s.cmd = .command i ∧ sequencerTurn s = exec i s) ∨
    (s.busy = true ∧ s.rstN = true ∧ ∃ why, decode s.cmd = .illegal why ∧ sequencerTurn s = .next s.completeIllegal) := by
  unfold sequencerTurn
  by_cases h : s.busy = true ∧ s.rstN = true
  · right
    simp only [h.1, h.2, Bool.and_self, if_true]
    cases hd : decode s.cmd with
    | command i => exact .inl ⟨trivial, trivial, i, rfl, rfl⟩
    | illegal why => exact .inr ⟨trivial, trivial, why, rfl, rfl⟩
  · left
    refine ⟨h, ?_⟩
    have : (s.busy && s.rstN) = false := by simpa using h
    simp [this]

/-- One step: a host access, a driven reset pin, or the sequencer's turn. -/
theorem step_cases {s t : State} (h : step s = .next t) :
    (∃ x rest, s.inputs = .host x :: rest ∧ t = ({ s with inputs := rest }).access x) ∨
    (∃ l rest, s.inputs = .resetPin l :: rest ∧ t = ({ s with inputs := rest }).driveReset l) ∨
    (∃ rest, (s.inputs = .sequencer :: rest ∨ s.inputs = [] ∧ rest = []) ∧
      sequencerTurn { s with inputs := rest } = .next t) := by
  unfold step at h
  split at h
  · rename_i hi
    refine .inr (.inr ⟨[], .inr ⟨hi, rfl⟩, ?_⟩)
    have : ({ s with inputs := [] } : State) = s := by rw [← hi]
    rwa [this]
  · rename_i x rest hi
    exact .inl ⟨x, rest, hi, by simpa using h.symm⟩
  · rename_i rest hi
    exact .inr (.inr ⟨rest, .inl hi, h⟩)
  · rename_i l rest hi
    exact .inr (.inl ⟨l, rest, hi, by simpa using h.symm⟩)

/-- A host read: an answer and nothing else, but for the draw of a free value (20_memory.md R66, R67). -/
theorem State.hostRead_cases (s : State) (w : Width) (addr : Addr) :
    (∃ r, s.hostRead w addr = s.answer r) ∨ (s.busy = true ∧ s.hostRead w addr = s.answerFree w) := by
  unfold State.hostRead
  split
  · split_ifs with h
    · simp only [Bool.and_eq_true] at h; exact .inr ⟨h.1, rfl⟩
    · exact .inl ⟨_, rfl⟩
  · exact .inl ⟨_, rfl⟩
  · split_ifs with h
    · exact .inr ⟨h, rfl⟩
    · exact .inl ⟨_, rfl⟩
  · exact .inl ⟨_, rfl⟩

/-- A host write: a drop, a register write, bytes stored in IN, or a bus error (20_memory.md R65 to R68, 10_state.md R43). -/
theorem State.hostWrite_cases (s : State) (w : Width) (addr : Addr) (v : Word) :
    (s.busy = true ∧ s.hostWrite w addr v = s.dropWrite) ∨
    (∃ r, (s.busy && isDroppedReg r) = false ∧ s.target w addr = .register r ∧
      s.hostWrite w addr v = (s.writeReg v r).answer .done) ∨
    (∃ a, s.busy = false ∧ s.target w addr = .inRam a ∧ s.hostWrite w addr v =
      ({ s with inRam := s.inRam.writeBytes a (bytesOfWord v (widthBytes w)) } : State).answer .done) ∨
    s.hostWrite w addr v = s.answer .error := by
  unfold State.hostWrite
  split
  · rename_i r hr
    split_ifs with h
    · simp only [Bool.and_eq_true] at h; exact .inl ⟨h.1, rfl⟩
    · exact .inr (.inl ⟨r, by simpa using h, hr, rfl⟩)
  · rename_i a ha
    split_ifs with h
    · exact .inl ⟨h, rfl⟩
    · exact .inr (.inr (.inl ⟨a, by simpa using h, ha, rfl⟩))
  · exact .inr (.inr (.inr rfl))
  · exact .inr (.inr (.inr rfl))

end Sys2Proof.Machine
end

