-- ==== Sys2Proof/Machine/Script.lean ====
section
/-! DEFINITION. The host-script statements and pseudo-instructions of 30_encoding.md R101 and R102, as entries of the pending schedule. -/

namespace Sys2Proof.Machine

/-- The offset of a register in the register window (10_state.md R20); a reserved one stands for 0x03C. -/
def regOffset : Reg → Nat
  | .id => 0x000
  | .ctrl => 0x004
  | .cmd => 0x008
  | .status => 0x00C
  | .config => 0x010
  | .width => 0x014
  | .height => 0x018
  | .inLen => 0x01C
  | .bytesPerRow => 0x020
  | .totalBytes => 0x024
  | .outLen => 0x028
  | .crc => 0x02C
  | .errInfo => 0x030
  | .inSize => 0x034
  | .outSize => 0x038
  | .reserved => 0x03C

/-- The bus address of a register, with the block's base address 0 (30_encoding.md R101). -/
def regAddr (r : Reg) : Addr := BitVec.ofNat 26 (regOffset r)

/-- The bus address `IN+n` (30_encoding.md R101). -/
def inAddr (n : Nat) : Addr := BitVec.ofNat 26 (0x1000000 + n)

/-- The bus address `OUT+n` (30_encoding.md R101). -/
def outAddr (n : Nat) : Addr := BitVec.ofNat 26 (0x2000000 + n)

/-- `ST32 <register>, v` (30_encoding.md R101). -/
def storeReg (r : Reg) (v : Word) : Event := .host (.write .w32 (regAddr r) v)

/-- `LD32 <register>` (30_encoding.md R101). -/
def loadReg (r : Reg) : Event := .host (.read .w32 (regAddr r))

/-- `ISSUE <MNEMONIC>` (30_encoding.md R102). -/
def issue (i : Instr) : Event := storeReg .cmd (encode i)

/-- `ISSUE.RAW v` (30_encoding.md R102). -/
def issueRaw (v : Word) : Event := storeReg .cmd v

/-- `CLEAR` (30_encoding.md R102). -/
def clearScript : Event := storeReg .status 0x0000000E

/-- `SRST` (30_encoding.md R102). -/
def softResetScript : Event := storeReg .ctrl 0x00000002

/-- `SETCFG enc, thr` (30_encoding.md R102). -/
def setConfig (enc thr : Nat) : Event := storeReg .config (BitVec.ofNat 32 (thr * 256 + enc))

/-- `WSTR IN+n, text`: one 8-bit store a character (30_encoding.md R102). -/
def writeString (n : Nat) : Str → List Event
  | [] => []
  | c :: t => .host (.write .w8 (inAddr n) (c.setWidth 32)) :: writeString (n + 1) t

/-- `WPIX x, y, rgb` with `w` the value last written to WIDTH (30_encoding.md R102). -/
def writePixel (w x y : Nat) (rgb : Word) : Event := .host (.write .w32 (inAddr (4 * (y * w + x))) rgb)

/-- One way `WAIT` can go (30_encoding.md R102): `polls` reads of STATUS that find BUSY = 1, the sequencer's turn, and the read that finds BUSY = 0. -/
def waitScript (polls : Nat) : List Event :=
  List.replicate polls (loadReg .status) ++ [.sequencer, loadReg .status]

end Sys2Proof.Machine
end

