-- ==== Sys2Proof/Tests/Slice0.lean ====
section
/-! SUPPORT. Tests: the WellFormed smoke test, the decoding of words written out from 30_encoding.md, one-step vectors of
95_test_vectors.md, and for every statement with hypotheses a witness that meets them, clause by clause. -/

namespace Sys2Proof.Tests

open Sys2Proof.Machine

/-! ### Helpers -/

/-- The bytes of an ASCII string. -/
def ascii (t : String) : Str := t.toList.map fun c => BitVec.ofNat 8 c.toNat

/-- The reset state of an instance with both RAMs of 4096 bytes (95_test_vectors.md), its working state fixed. -/
def idle : State :=
  { State.reset with
    inSize := 4096
    outSize := 4096
    work :=
      { pack := { acc := 0, nbits := 0, x := 0, y := 0 }
        run := { aux := 0, counter := 0, seed := false, line := [], prev := [], prevValid := false }
        frame := { group := [], crcReg := 0, nibble := none } } }

/-- The same with the command word `w` pending. -/
def pending (w : Word) : State := { idle with phase := .busy, cmd := w }

/-- The input string `t` in IN, of an instance whose RAMs hold `n` and `m` bytes. -/
def fed (t : Str) (n m : Nat) : State :=
  { idle with
    inRam := Memory.ofString 1 t
    inLen := BitVec.ofNat 25 t.length
    inSize := BitVec.ofNat 32 n
    outSize := BitVec.ofNat 32 m }

/-- A `w` by `h` image of one pixel byte, of an instance whose RAMs hold `n` and `m` bytes. -/
def image (pixel : Byte) (w h n m : Nat) : State :=
  { idle with
    inRam := Memory.ofString 1 (List.replicate (4 * w * h) pixel)
    width := BitVec.ofNat 16 w
    height := BitVec.ofNat 16 h
    inSize := BitVec.ofNat 32 n
    outSize := BitVec.ofNat 32 m }

/-- A `w` by `h` image of the given decisions in row-major order, black as 0x00000000 and white as 0x00FFFFFF. -/
def picture (blacks : List Bool) (w h : Nat) : State :=
  { image 0 w h 4096 4096 with
    inRam := Memory.ofString 1 (blacks.flatMap fun b => if b then [0, 0, 0, 0] else [0xFF, 0xFF, 0xFF, 0x00]) }

/-- The state after a command. -/
def after (i : Instr) (s : State) : State :=
  match exec i s with
  | .next t => t
  | .fault _ => s
  | .refused _ => s

/-- The state after a step. -/
def stepped (s : State) : State :=
  match step s with
  | .next t => t
  | .fault _ => s
  | .refused _ => s

/-- OUT_LEN bytes of OUT. -/
def produced (t : State) : Str := t.outString t.outLen.toNat

/-- The zlib answer of 95_test_vectors.md 2.5 to the bytes FF FF. -/
def zlibAnswer : Str := [0x78, 0xDA, 0xFB, 0xFF, 0x1F, 0x00, 0x02, 0xFF, 0x01, 0xFF]

/-- An engine that answers `a` to the bytes FF FF. -/
def withEngine (s : State) (a : DeflateAnswer) : State := { s with engine := [([0xFF, 0xFF], a)] }

/-! ### Well-formedness: each check refuses an ill-formed word (30_encoding.md R90, R94) -/

theorem test_rsvZero_refuses : WellFormed.rsvZero 0x00000108 = false ∧ WellFormed.rsvZero 0x80000000 = false := by decide

theorem test_opDefined_refuses : WellFormed.opDefined 0x00000008 = false ∧ WellFormed.opDefined 0x000000FF = false := by
  decide

theorem test_word_refuses :
    WellFormed.word 0x00000100 = false ∧ WellFormed.word 0x00000008 = false ∧ WellFormed.word 0x00000007 = true := by
  decide

/-! ### Decoding: each opcode of 30_encoding.md R93 in bits 7..0, zeros above -/

theorem test_decode_nop : decode 0b00000000000000000000000000000000 = .command .nop := by decide

theorem test_decode_encode : decode 0b00000000000000000000000000000001 = .command .encode := by decide

theorem test_decode_pack : decode 0b00000000000000000000000000000010 = .command .pack := by decide

theorem test_decode_compress : decode 0b00000000000000000000000000000011 = .command .compress := by decide

theorem test_decode_frameB64 : decode 0b00000000000000000000000000000100 = .command .frameB64 := by decide

theorem test_decode_frameZ64 : decode 0b00000000000000000000000000000101 = .command .frameZ64 := by decide

theorem test_decode_base64 : decode 0b00000000000000000000000000000110 = .command .base64 := by decide

theorem test_decode_crc16 : decode 0b00000000000000000000000000000111 = .command .crc16 := by decide

/-- The illegal words of 95_test_vectors.md 2.9, and a defined opcode under a set bit 31. -/
theorem test_decode_illegal :
    decode 0x00000108 = .illegal .reservedBits ∧ decode 0x00000008 = .illegal .reservedOpcode ∧
    decode 0xFFFFFFFF = .illegal .reservedBits ∧ decode 0x80000002 = .illegal .reservedBits := by decide

/-- The table's numbering: bit 0 is the least significant bit of the word, and bits above `nbits` are 0. -/
theorem test_decodeTableWord :
    decodeTableWord 32 3 = some .compress ∧ decodeTableWord 8 0x103 = some .compress ∧ decodeTableWord 32 0x103 = none := by
  decide

/-! ### One step of each command (95_test_vectors.md) -/

/-- 2.9: NOP from STATUS = 0x00000004 gives 0x00000006. -/
theorem test_nop : (after .nop { pending 0 with err := true }).statusWord = 0x00000006 := by decide

/-- 2.9: an illegal word gives STATUS 0x00000406 and ERR_INFO the word. -/
theorem test_illegal : (stepped (pending 0x00000108)).statusWord = 0x00000406 ∧
    (stepped (pending 0x00000108)).errInfo = 0x00000108 := by decide

/-- 2.2: 3 x 2 with (x + y) even black: the rows differ, so their order shows. -/
theorem test_pack : produced (after .pack (picture [true, false, true, false, true, false] 3 2)) = ascii "A0\n40\n" := by
  decide

/-- 2.2: 64 x 10 with P_OUT_SIZE = 16 reports 170 bytes. -/
theorem test_pack_overflow : (after .pack (image 255 64 10 4096 16)).errInfo = 170 := by decide +kernel

/-- 2.3: the seeded first row, and a full zero row after it. -/
theorem test_compress : produced (after .compress { fed (ascii "0000\n0000\n") 4096 4096 with width := 16 }) = ascii "I0," := by
  decide

/-- 2.3: a lowercase digit is refused at its offset. -/
theorem test_compress_refuses :
    (after .compress { fed (ascii "000a\n") 4096 4096 with width := 16 }).errCode = .invalidEncoding ∧
    (after .compress { fed (ascii "000a\n") 4096 4096 with width := 16 }).errInfo = 3 := by decide

/-- 2.4: one frame and its CRC, and digits in lower case. -/
theorem test_frameB64 :
    produced (after .frameB64 (fed (ascii "FFFF\n") 4096 4096)) = ascii ":B64://8=:2295" ∧
    produced (after .frameB64 (fed (ascii "ff") 4096 4096)) = ascii ":B64:/w==:2A0F" := by decide +kernel

/-- 2.4: a non-hex digit is reported before an odd count. -/
theorem test_frameB64_refuses : (after .frameB64 (fed (ascii "0G1") 4096 4096)).errInfo = 1 := by decide

/-- 2.5: the zlib illustration. -/
theorem test_frameZ64 :
    produced (after .frameZ64 (withEngine (fed (ascii "FFFF\n") 4096 4096) (.bytes zlibAnswer))) =
      ascii ":Z64:eNr7/x8AAv8B/w==:B064" := by decide +kernel

/-- 2.5: an engine that answers failure. -/
theorem test_frameZ64_failure :
    (after .frameZ64 (withEngine (fed (ascii "FFFF") 4096 4096) .failure)).errCode = .deflateError := by decide

/-- 2.6: five bytes, one pad. -/
theorem test_base64 : produced (after .base64 (fed (ascii "fooba") 4096 4096)) = ascii "Zm9vYmE=" := by decide

/-- 2.7: the check value of 90_conflicts.md C4. -/
theorem test_crc16 : (after .crc16 (fed (ascii "123456789") 4096 4096)).crc = 0x31C3 := by decide +kernel

/-- 2.7: IN_LEN = 5000 beyond P_IN_SIZE = 4096. -/
theorem test_crc16_refuses : (after .crc16 { idle with inLen := 5000 }).errInfo = 5000 := by decide

/-- 2.8: 8 x 2 black with ENC = 0 and with ENC = 1. -/
theorem test_encode :
    produced (after .encode (image 0 8 2 4096 4096)) = ascii "GF!" ∧
    produced (after .encode { image 0 8 2 4096 4096 with enc := .base64 }) = ascii ":B64://8=:2295" := by decide +kernel

/-- 2.8: ENC = 3 is refused before the region check. -/
theorem test_encode_fourth : (after .encode { image 0 32 9 1024 4096 with enc := .fourth }).errInfo = 3 := by decide

/-- 2.9: a byte access of the register window, a store to OUT and a misaligned load are bus errors. -/
theorem test_bus_errors :
    (idle.access (.read .w8 0x0000000)).reply = .error ∧ (idle.access (.write .w8 0x2000000 0x41)).reply = .error ∧
    (idle.access (.read .w16 0x1000001)).reply = .error := by decide

/-- 2.9: ID, a reserved register, and the clearing of STATUS bits. -/
theorem test_registers :
    (idle.access (.read .w32 0x0000000)).reply = .data 0x5A524507 ∧ (idle.access (.read .w32 0x0000040)).reply = .data 0 ∧
    (({ idle with done := true, err := true, errCode := .illegalCommand } : State).access
      (.write .w32 0x000000C 2)).statusWord = 0x00000404 := by decide

/-- The fetched word runs in the very next step. -/
theorem test_withFetchWord : (stepped (idle.withFetchWord 32 0)).statusWord = 0x00000002 := by decide

/-! ### Witnesses: states and operands that meet the hypotheses of the statements -/

theorem witness_DecodeFollowsOpcodeTable :
    (0x00000100 : Word).extractLsb' 8 24 ≠ 0 ∧
    ((0x000000FF : Word).extractLsb' 8 24 = 0 ∧ 8 ≤ ((0x000000FF : Word).extractLsb' 0 8).toNat) ∧
    ((0x00000008 : Word).extractLsb' 8 24 = 0 ∧ 8 ≤ ((0x00000008 : Word).extractLsb' 0 8).toNat) ∧
    ∀ op : Fin 8, (BitVec.ofNat 32 op.val).extractLsb' 8 24 = 0 ∧
      (BitVec.ofNat 32 op.val).extractLsb' 0 8 = BitVec.ofNat 8 op.val := by decide

theorem witness_DecodeAndEncodeAgree :
    WellFormed.instr .crc16 = true ∧ decode 0x00000007 = .command .crc16 ∧ (0x00000007 : Word) = encode .crc16 := by decide

/-- With the schedule empty, and with the sequencer's turn first in it. -/
theorem witness_StepRunsDecodedCommand :
    (∃ s : State, WellFormed.instr .pack = true ∧ s.phase = .busy ∧ s.rstN = true ∧ decode s.cmd = .command .pack ∧
      s.inputs = []) ∧
    (∃ s : State, WellFormed.instr .crc16 = true ∧ s.phase = .busy ∧ s.rstN = true ∧ decode s.cmd = .command .crc16 ∧
      s.inputs = .sequencer :: [loadReg .id]) :=
  ⟨⟨pending 2, by decide⟩, ⟨{ pending 7 with inputs := [.sequencer, loadReg .id] }, by decide⟩⟩

/-- The first reserved opcode with the schedule empty, and the lowest reserved bit with the sequencer's turn first. -/
theorem witness_IllegalWordCompletesWithItsWord :
    (∃ s : State, 8 ≤ (s.cmd.extractLsb' 0 8).toNat ∧ s.phase = .busy ∧ s.rstN = true ∧ s.inputs = []) ∧
    (∃ s : State, s.cmd.extractLsb' 8 24 ≠ 0 ∧ s.phase = .busy ∧ s.rstN = true ∧ s.inputs = .sequencer :: []) :=
  ⟨⟨pending 8, by decide⟩, ⟨{ pending 0x100 with inputs := [.sequencer] }, by decide⟩⟩

theorem witness_InputsHappenInOrder :
    (∃ s : State, s.inputs = .host (.read .w32 0) :: []) ∧ (∃ s : State, s.inputs = .resetPin false :: [.sequencer]) ∧
    (∃ s : State, s.phase = .idle ∧ s.inputs = []) ∧ (∃ s : State, s.phase = .idle ∧ s.inputs = .sequencer :: []) ∧
    (∃ s : State, s.phase = .busy ∧ s.rstN = false ∧ s.inputs = .sequencer :: []) :=
  ⟨⟨{ idle with inputs := [loadReg .id] }, by decide⟩, ⟨{ idle with inputs := [.resetPin false, .sequencer] }, by decide⟩,
    ⟨idle, by decide⟩, ⟨{ idle with inputs := [.sequencer] }, by decide⟩,
    ⟨{ pending 0 with rstN := false, inputs := [.sequencer] }, by decide⟩⟩

/-- A completion, and both commands that can wait for the engine. -/
theorem witness_CommandCompletesUnlessEngineSilent :
    (∃ t, exec .crc16 (fed (ascii "A") 4 16) = .next t ∧ t.done = true) ∧
    (∃ t, exec .frameZ64 (withEngine (fed (ascii "FFFF") 4 16) .noAnswer) = .next t ∧ t.deflateReq = some [0xFF, 0xFF]) ∧
    (∃ t, exec .encode (withEngine { image 0 8 2 64 16 with enc := .base64Deflate } .noAnswer) = .next t ∧
      t.deflateReq = some [0xFF, 0xFF]) :=
  ⟨⟨_, rfl, by decide⟩, ⟨_, rfl, by decide⟩, ⟨_, rfl, by decide⟩⟩

theorem witness_CommandAcceptance :
    (idle.rstN = true ∧ idle.phase = .idle) ∧ ((pending 1).rstN = true ∧ (pending 1).phase = .busy) := by decide

/-- The last byte and the last word of IN, both values of SRST, and an access that is not a soft reset. -/
theorem witness_BusyDropsInputWrites :
    (pending 1).phase = .busy ∧ (pending 1).rstN = true ∧ RamAccess .w8 4095 (pending 1).inSize.toNat ∧
    RamAccess .w32 4092 (pending 1).inSize.toNat ∧ RamAccess .w16 0 (pending 1).inSize.toNat ∧
    ((1 : Word).getLsbD 1 = false ∧ (2 : Word).getLsbD 1 = true) ∧
    ∀ w u, Access.write .w32 0x08 0 = .write w 0x04 u → u.getLsbD 1 = false := by
  refine ⟨by decide, by decide, ?_, ?_, ?_, by decide, ?_⟩
  · unfold RamAccess; decide
  · unfold RamAccess; decide
  · unfold RamAccess; decide
  · intro w u h; injection h with _ h _; exact absurd h (by decide)

theorem witness_BusyAccessChangesNoResult :
    (pending 1).phase = .busy ∧
    (∀ w u, Access.write .w32 0x04 1 = .write w 0x04 u → u.getLsbD 1 = false) ∧
    ∀ w u, Access.read .w32 0x04 = .write w 0x04 u → u.getLsbD 1 = false := by
  refine ⟨by decide, ?_, ?_⟩
  · intro w u h; injection h with _ _ h; subst h; decide
  · intro w u h; cases h

theorem witness_SoftResetRestoresRegisters :
    (idle.rstN = true ∧ idle.phase = .idle) ∧ ((pending 1).rstN = true ∧ (pending 1).phase = .busy) ∧
    ((2 : Word).getLsbD 1 = true ∧ (3 : Word).getLsbD 1 = true) := by decide

/-- The level 0 on a released pin, and the release of a pin at 0. -/
theorem witness_HardwareResetRestoresRegisters :
    ((false : Bool) = false ∧ (pending 1).rstN = true) ∧ ({ idle with rstN := false } : State).rstN = false := by decide

theorem witness_AccessInResetIsBusError : ({ idle with rstN := false } : State).rstN = false := by decide

/-- Each bus-error clause at both ends of its range of addresses, in an instance with 4096 bytes in each RAM. -/
theorem witness_BusErrorsChangeNothing :
    (0x1000 ≤ (0x1000 : Addr).toNat ∧ (0x1000 : Addr).toNat < 0x1000000) ∧
    (0x1000 ≤ (0xFFFFFF : Addr).toNat ∧ (0xFFFFFF : Addr).toNat < 0x1000000) ∧
    (0x3000000 ≤ (0x3000000 : Addr).toNat ∧ 0x3000000 ≤ (0x3FFFFFF : Addr).toNat) ∧
    (0x1000000 ≤ (0x1001000 : Addr).toNat ∧ (0x1001000 : Addr).toNat < 0x2000000 ∧
      idle.inSize.toNat ≤ (0x1001000 : Addr).toNat - 0x1000000) ∧
    (0x1000000 ≤ (0x1000001 : Addr).toNat ∧ (0x1000001 : Addr).toNat < 0x2000000 ∧
      (0x1000001 : Addr).toNat % widthBytes .w16 ≠ 0) ∧
    (0x2000000 ≤ (0x2001000 : Addr).toNat ∧ (0x2001000 : Addr).toNat < 0x3000000 ∧
      idle.outSize.toNat ≤ (0x2001000 : Addr).toNat - 0x2000000) ∧
    (0x2000000 ≤ (0x2000002 : Addr).toNat ∧ (0x2000002 : Addr).toNat < 0x3000000 ∧
      (0x2000002 : Addr).toNat % widthBytes .w32 ≠ 0) ∧
    ((0x000 : Addr).toNat < 0x1000 ∧ Width.w8 ≠ .w32) ∧ ((0xFFE : Addr).toNat < 0x1000 ∧ (0xFFE : Addr).toNat % 4 ≠ 0) ∧
    (0x2000000 ≤ (0x2000000 : Addr).toNat ∧ (0x2000000 : Addr).toNat < 0x3000000) ∧
    (0x2000000 ≤ (0x2FFFFFF : Addr).toNat ∧ (0x2FFFFFF : Addr).toNat < 0x3000000) := by decide

/-- Each phase, the first and last ENC kinds and error codes, and both ends of the reserved offsets. -/
theorem witness_RegisterReadsReturnFields :
    idle.rstN = true ∧ idle.phase = .idle ∧ (pending 1).rstN = true ∧
    (∃ s : State, s.rstN = true ∧ s.enc = .fourth ∧ s.errCode = .outputOverflow) ∧
    (∃ s : State, s.rstN = true ∧ s.enc = .hexCompressed ∧ s.errCode = .ok) ∧
    (0x3C ≤ (0x3C : Addr).toNat ∧ (0x3C : Addr).toNat < 0x1000 ∧ (0x3C : Addr).toNat % 4 = 0) ∧
    (0x3C ≤ (0xFFC : Addr).toNat ∧ (0xFFC : Addr).toNat < 0x1000 ∧ (0xFFC : Addr).toNat % 4 = 0) :=
  ⟨by decide, by decide, by decide, ⟨{ idle with enc := .fourth, errCode := .outputOverflow }, by decide⟩,
    ⟨idle, by decide⟩, by decide, by decide⟩

theorem witness_RegisterWritesStoreFields :
    idle.rstN = true ∧ idle.phase = .idle ∧ (0x00000001 : Word).getLsbD 1 = false ∧
    (0xFFFFFFFC : Word).toNat % 4 = 0 ∧ (0x8001 : Word).toNat % 4 = 1 ∧ (2 : Word).toNat % 4 = 2 ∧
    (0xFFFFFFFF : Word).toNat % 4 = 3 := by decide

theorem witness_InWriteStoresLittleEndian :
    idle.rstN = true ∧ idle.phase = .idle ∧ RamAccess .w32 4092 idle.inSize.toNat ∧ RamAccess .w8 4095 idle.inSize.toNat ∧
    RamAccess .w16 0 idle.inSize.toNat ∧ (3 < widthBytes .w32 ∧ 4091 < 4092 ∧ 4092 + widthBytes .w32 ≤ 4096) := by
  unfold RamAccess; decide

theorem witness_RamReadsAreLittleEndian :
    idle.rstN = true ∧ idle.phase = .idle ∧ (pending 1).rstN = true ∧ RamAccess .w32 4092 idle.inSize.toNat ∧
    RamAccess .w8 4095 idle.outSize.toNat ∧ 0 < widthBytes .w8 := by
  unfold RamAccess; decide

/-- A completion with IRQ_EN = 1, and IRQ_EN set while DONE stands. -/
theorem witness_IrqRisesOnlyAtCompletionOrEnable :
    (∃ t, step { pending 0 with irqEn := true } = .next t ∧ (pending 0).irq = false ∧ t.irq = true) ∧
    (∃ t, step { idle with done := true, inputs := [storeReg .ctrl 1] } = .next t ∧ idle.irq = false ∧ t.irq = true) :=
  ⟨⟨_, rfl, by decide⟩, ⟨_, rfl, by decide⟩⟩

/-- DONE and ERR at a completion, WDROP at a dropped write, BUSY at an accepted CMD write, ERRCODE at a completion and a reset. -/
theorem witness_StatusBitsAreSetOnlyByTheirEvents :
    (∃ t, step (pending 8) = .next t ∧ (pending 8).done = false ∧ t.done = true ∧ (pending 8).err = false ∧ t.err = true ∧
      t.errCode ≠ (pending 8).errCode) ∧
    (∃ t, step { pending 8 with inputs := [storeReg .width 7] } = .next t ∧ (pending 8).wdrop = false ∧ t.wdrop = true) ∧
    (∃ t, step { idle with inputs := [issue .pack] } = .next t ∧ idle.phase = .idle ∧ t.phase = .busy) ∧
    (∃ t, step { idle with errCode := .deflateError, inputs := [softResetScript] } = .next t ∧
      t.errCode ≠ .deflateError) :=
  ⟨⟨_, rfl, by decide⟩, ⟨_, rfl, by decide⟩, ⟨_, rfl, by decide⟩, ⟨_, rfl, by decide⟩⟩

/-- A state that meets the invariant with a byte in OUT and a command pending, and its step. -/
theorem witness_StepKeepsInvariant :
    StateInv { fed (ascii "foo") 4 16 with phase := .busy, cmd := 6, outLen := 1, outRam := Memory.ofString 2 [0x41] } ∧
    ∃ t, step { fed (ascii "foo") 4 16 with phase := .busy, cmd := 6, outLen := 1, outRam := Memory.ofString 2 [0x41] } =
      .next t ∧ produced t = ascii "Zm9v" := by
  refine ⟨?_, _, rfl, by decide⟩
  unfold StateInv ParamsLegal RamsLegal OutValid SizesInRange PhaseAgrees ErrorAgrees WorkInRange
  decide

theorem witness_NopOnlyCompletes : (pending 1).phase = .busy ∧ (pending 1).rstN = true := by decide

/-- 9 x 4 pixels are 144 bytes and their hex text is 20: exact sizes, and each error at its edge. -/
theorem witness_PackFollowsItsRule :
    (∃ s : State, 4 * s.width.toNat * s.height.toNat = s.inSize.toNat ∧ s.hexText.length = s.outSize.toNat ∧
      s.hexText ≠ []) ∧
    (∃ s : State, s.inSize.toNat + 4 = 4 * s.width.toNat * s.height.toNat) ∧
    (∃ s : State, 4 * s.width.toNat * s.height.toNat = s.inSize.toNat ∧ s.outSize.toNat + 1 = s.hexText.length) :=
  ⟨⟨image 0 9 4 144 20, by decide⟩, ⟨image 0 9 4 140 20, by decide⟩, ⟨image 0 9 4 144 19, by decide⟩⟩

/-- Exact sizes, and each error at its edge: a missing byte of IN, no width, no input, a bad byte, a full OUT. -/
theorem witness_CompressFollowsItsRule :
    (∃ s : State, s.inLen.toNat = s.inSize.toNat ∧ (s.width.toNat + 7) / 8 = 1 ∧ s.inLen.toNat ≠ 0 ∧
      hexTextFault (s.inString s.inLen.toNat) 1 = none ∧
      (zplCompress (s.inString s.inLen.toNat) 1).length = s.outSize.toNat) ∧
    (∃ s : State, s.inSize.toNat + 1 = s.inLen.toNat) ∧
    (∃ s : State, s.inLen.toNat = s.inSize.toNat ∧ (s.width.toNat + 7) / 8 = 0) ∧
    (∃ s : State, s.inLen.toNat ≤ s.inSize.toNat ∧ s.inLen.toNat = 0) ∧
    (∃ s : State, s.inLen.toNat = s.inSize.toNat ∧ (s.width.toNat + 7) / 8 = 1 ∧ s.inLen.toNat ≠ 0 ∧
      hexTextFault (s.inString s.inLen.toNat) 1 = some 1) ∧
    (∃ s : State, s.inLen.toNat = s.inSize.toNat ∧ (s.width.toNat + 7) / 8 = 1 ∧ s.inLen.toNat ≠ 0 ∧
      hexTextFault (s.inString s.inLen.toNat) 1 = none ∧
      s.outSize.toNat + 1 = (zplCompress (s.inString s.inLen.toNat) 1).length) :=
  ⟨⟨{ fed (ascii "FF\n") 3 2 with width := 8 }, by decide⟩, ⟨fed (ascii "FF\n") 2 2, by decide⟩,
    ⟨fed (ascii "FF\n") 3 2, by decide⟩, ⟨{ idle with width := 8 }, by decide⟩,
    ⟨{ fed (ascii "F\n") 2 2 with width := 1 }, by decide⟩, ⟨{ fed (ascii "FF\n") 3 1 with width := 8 }, by decide⟩⟩

/-- Exact sizes, and each error at its edge. -/
theorem witness_FrameB64FollowsItsRule :
    (∃ (s : State) (raw : Str), s.inLen.toNat = s.inSize.toNat ∧ hexToBytes (s.inString s.inLen.toNat) = .bytes raw ∧
      (frameText false (base64 raw)).length = s.outSize.toNat) ∧
    (∃ s : State, s.inSize.toNat + 1 = s.inLen.toNat) ∧
    (∃ (s : State) (e : Nat), s.inLen.toNat ≤ s.inSize.toNat ∧ hexToBytes (s.inString s.inLen.toNat) = .fault e) ∧
    (∃ (s : State) (raw : Str), s.inLen.toNat = s.inSize.toNat ∧ hexToBytes (s.inString s.inLen.toNat) = .bytes raw ∧
      s.outSize.toNat + 1 = (frameText false (base64 raw)).length) :=
  ⟨⟨fed (ascii "FFFF") 4 14, [0xFF, 0xFF], by decide⟩, ⟨fed (ascii "FFFFF") 4 14, by decide⟩,
    ⟨fed (ascii "FFF") 4 14, 2, by decide⟩, ⟨fed (ascii "FFFF") 4 13, [0xFF, 0xFF], by decide⟩⟩

/-- The engine's three answers, exact sizes, and each error at its edge. -/
theorem witness_FrameZ64FollowsItsRule :
    (∃ (s : State) (raw d : Str), s.inLen.toNat = s.inSize.toNat ∧ hexToBytes (s.inString s.inLen.toNat) = .bytes raw ∧
      s.deflateCall raw = .bytes d ∧ (frameText true (base64 d)).length = s.outSize.toNat) ∧
    (∃ s : State, s.inSize.toNat + 1 = s.inLen.toNat) ∧
    (∃ (s : State) (e : Nat), s.inLen.toNat ≤ s.inSize.toNat ∧ hexToBytes (s.inString s.inLen.toNat) = .fault e) ∧
    (∃ (s : State) (raw : Str), s.inLen.toNat = s.inSize.toNat ∧ hexToBytes (s.inString s.inLen.toNat) = .bytes raw ∧
      s.deflateCall raw = .failure) ∧
    (∃ (s : State) (raw d : Str), s.inLen.toNat = s.inSize.toNat ∧ hexToBytes (s.inString s.inLen.toNat) = .bytes raw ∧
      s.deflateCall raw = .bytes d ∧ s.outSize.toNat + 1 = (frameText true (base64 d)).length) ∧
    (∃ (s : State) (raw : Str), s.inLen.toNat = s.inSize.toNat ∧ hexToBytes (s.inString s.inLen.toNat) = .bytes raw ∧
      s.deflateCall raw = .noAnswer) :=
  ⟨⟨withEngine (fed (ascii "FFFF") 4 26) (.bytes zlibAnswer), [0xFF, 0xFF], zlibAnswer, by decide⟩,
    ⟨fed (ascii "FFFFF") 4 26, by decide⟩, ⟨fed (ascii "0G") 4 26, 1, by decide⟩,
    ⟨withEngine (fed (ascii "FFFF") 4 26) .failure, [0xFF, 0xFF], by decide⟩,
    ⟨withEngine (fed (ascii "FFFF") 4 25) (.bytes zlibAnswer), [0xFF, 0xFF], zlibAnswer, by decide⟩,
    ⟨withEngine (fed (ascii "FFFF") 4 26) .noAnswer, [0xFF, 0xFF], by decide⟩⟩

/-- Exact sizes, and each error at its edge. -/
theorem witness_Base64FollowsItsRule :
    (∃ s : State, s.inLen.toNat = s.inSize.toNat ∧ (base64 (s.inString s.inLen.toNat)).length = s.outSize.toNat) ∧
    (∃ s : State, s.inSize.toNat + 1 = s.inLen.toNat) ∧
    (∃ s : State, s.inLen.toNat = s.inSize.toNat ∧
      s.outSize.toNat + 1 = (base64 (s.inString s.inLen.toNat)).length) :=
  ⟨⟨fed (ascii "foob") 4 8, by decide⟩, ⟨fed (ascii "fooba") 4 8, by decide⟩, ⟨fed (ascii "foob") 4 7, by decide⟩⟩

theorem witness_Crc16FollowsItsRule :
    (∃ s : State, s.inLen.toNat = s.inSize.toNat) ∧ (∃ s : State, s.inSize.toNat + 1 = s.inLen.toNat) :=
  ⟨⟨fed (ascii "1234") 4 16, by decide⟩, ⟨fed (ascii "12345") 4 16, by decide⟩⟩

/-- 8 x 1 black: 32 bytes of pixels and the two bytes `GF`; each error at its edge. -/
theorem witness_EncodeHexFollowsItsRule :
    (∃ s : State, s.enc = .hexCompressed ∧ 4 * s.width.toNat * s.height.toNat = s.inSize.toNat ∧ s.width.toNat ≠ 0 ∧
      s.height.toNat ≠ 0 ∧ (zplCompress s.hexText ((s.width.toNat + 7) / 8)).length = s.outSize.toNat) ∧
    (∃ s : State, s.enc = .hexCompressed ∧ s.inSize.toNat + 4 = 4 * s.width.toNat * s.height.toNat) ∧
    (∃ s : State, s.enc = .hexCompressed ∧ s.width.toNat = 0 ∧ s.height.toNat = 5) ∧
    (∃ s : State, s.enc = .hexCompressed ∧ s.width.toNat = 16 ∧ s.height.toNat = 0) ∧
    (∃ s : State, s.enc = .hexCompressed ∧ 4 * s.width.toNat * s.height.toNat = s.inSize.toNat ∧ s.width.toNat ≠ 0 ∧
      s.height.toNat ≠ 0 ∧ s.outSize.toNat + 1 = (zplCompress s.hexText ((s.width.toNat + 7) / 8)).length) :=
  ⟨⟨image 0 8 1 32 2, by decide⟩, ⟨image 0 8 1 28 2, by decide⟩, ⟨image 0 0 5 32 2, by decide⟩,
    ⟨image 0 16 0 32 2, by decide⟩, ⟨image 0 8 1 32 1, by decide⟩⟩

/-- Exact sizes, and each error at its edge. -/
theorem witness_EncodeB64FollowsItsRule :
    (∃ s : State, s.enc = .base64 ∧ 4 * s.width.toNat * s.height.toNat = s.inSize.toNat ∧
      (frameText false (base64 s.packedBytes)).length = s.outSize.toNat) ∧
    (∃ s : State, s.enc = .base64 ∧ s.inSize.toNat + 4 = 4 * s.width.toNat * s.height.toNat) ∧
    (∃ s : State, s.enc = .base64 ∧ 4 * s.width.toNat * s.height.toNat = s.inSize.toNat ∧
      s.outSize.toNat + 1 = (frameText false (base64 s.packedBytes)).length) :=
  ⟨⟨{ image 0 8 2 64 14 with enc := .base64 }, by decide⟩, ⟨{ image 0 8 2 60 14 with enc := .base64 }, by decide⟩,
    ⟨{ image 0 8 2 64 13 with enc := .base64 }, by decide⟩⟩

/-- The engine's three answers, exact sizes, and each error at its edge. -/
theorem witness_EncodeZ64FollowsItsRule :
    (∃ (s : State) (d : Str), s.enc = .base64Deflate ∧ 4 * s.width.toNat * s.height.toNat = s.inSize.toNat ∧
      s.deflateCall s.packedBytes = .bytes d ∧ (frameText true (base64 d)).length = s.outSize.toNat) ∧
    (∃ s : State, s.enc = .base64Deflate ∧ s.inSize.toNat + 4 = 4 * s.width.toNat * s.height.toNat) ∧
    (∃ s : State, s.enc = .base64Deflate ∧ 4 * s.width.toNat * s.height.toNat = s.inSize.toNat ∧
      s.deflateCall s.packedBytes = .failure) ∧
    (∃ (s : State) (d : Str), s.enc = .base64Deflate ∧ 4 * s.width.toNat * s.height.toNat = s.inSize.toNat ∧
      s.deflateCall s.packedBytes = .bytes d ∧ s.outSize.toNat + 1 = (frameText true (base64 d)).length) ∧
    (∃ s : State, s.enc = .base64Deflate ∧ 4 * s.width.toNat * s.height.toNat = s.inSize.toNat ∧
      s.deflateCall s.packedBytes = .noAnswer) :=
  ⟨⟨withEngine { image 0 8 2 64 26 with enc := .base64Deflate } (.bytes zlibAnswer), zlibAnswer, by decide⟩,
    ⟨{ image 0 8 2 60 26 with enc := .base64Deflate }, by decide⟩,
    ⟨withEngine { image 0 8 2 64 26 with enc := .base64Deflate } .failure, by decide⟩,
    ⟨withEngine { image 0 8 2 64 25 with enc := .base64Deflate } (.bytes zlibAnswer), zlibAnswer, by decide⟩,
    ⟨withEngine { image 0 8 2 64 26 with enc := .base64Deflate } .noAnswer, by decide⟩⟩

theorem witness_EncodeFourthKindIsUnsupported : ({ image 0 32 9 1024 16 with enc := .fourth } : State).enc = .fourth := by
  decide

theorem witness_CommandsLeaveInputsAlone : ∃ t, exec .pack (image 0 9 4 144 20) = .next t ∧ t.outLen = 20 :=
  ⟨_, rfl, by decide⟩

theorem witness_ErrorsLeaveNoPartialResult :
    (∃ t, exec .pack (image 0 9 4 140 20) = .next t ∧ t.deflateReq = none ∧ t.errCode ≠ .ok) ∧
    (∃ t, exec .crc16 (fed (ascii "12345") 4 16) = .next t ∧ t.deflateReq = none ∧ t.errCode ≠ .ok) :=
  ⟨⟨_, rfl, by decide⟩, ⟨_, rfl, by decide⟩⟩

theorem witness_CommandsRaiseOnlyTheirCodes :
    ∃ t, exec .encode (image 0 0 5 32 16) = .next t ∧ t.deflateReq = none ∧ t.errCode = .degenerateRaster :=
  ⟨_, rfl, by decide⟩

theorem witness_CommandsWriteOnlyTheirResults :
    (∃ t, exec .pack (image 0 9 4 144 20) = .next t ∧ t.bytesPerRow ≠ (image 0 9 4 144 20).bytesPerRow ∧
      t.outLen ≠ (image 0 9 4 144 20).outLen) ∧
    (∃ t, exec .crc16 (fed (ascii "1234") 4 16) = .next t ∧ t.crc ≠ (fed (ascii "1234") 4 16).crc) :=
  ⟨⟨_, rfl, by decide⟩, ⟨_, rfl, by decide +kernel⟩⟩

theorem witness_PixelIsBlackBelowThreshold :
    (image 127 1 1 4 16).black 0 0 = true ∧ (image 128 1 1 4 16).black 0 0 = false := by decide

theorem witness_ThresholdCornerCases : luminance 10 20 30 = (20 : Byte).toNat ∧ luminance 255 255 255 = (255 : Byte).toNat := by
  decide

theorem witness_RowBytePlacesPixels : 7 < 8 ∧ (rowByte 8 (fun x => x == 7) 0).getLsbD (7 - 7) = true := by decide

theorem witness_HexTextLength : (image 0 0 3 4 16).width = 0 ∧ (image 0 5 0 4 16).height = 0 := by decide

/-- The first byte of the image and the last, in a picture whose rows differ. -/
theorem witness_PackedBytesAreTheHexTextsBytes :
    (∃ s : State, 0 < s.height.toNat ∧ 0 < (s.width.toNat + 7) / 8 ∧ s.packedBytes[0]? = some 0xA0) ∧
    (∃ s : State, 1 + 1 = s.height.toNat ∧ 0 + 1 = (s.width.toNat + 7) / 8 ∧ s.packedBytes[1 * 1 + 0]? = some 0x40) :=
  ⟨⟨picture [true, false, true, false, true, false] 3 2, by decide⟩,
    ⟨picture [true, false, true, false, true, false] 3 2, by decide⟩⟩

theorem witness_RunTokenLettersAddUp : 1 ≤ 1 ∧ 0x47 ∈ (runToken 1 0x41).dropLast ∧ 0x7A ∈ (runToken 400 0x41).dropLast := by
  decide

theorem witness_AcceptedTextsAreHexTexts :
    (hexTextFault (ascii "FF\n") 1 = none ∧ ascii "FF\n" ≠ []) ∧ (hexTextFault (ascii "\n") 0 = none ∧ ascii "\n" ≠ []) ∧
    ascii "FF\n" = hexTextFrom (8 * 1) (fun _ _ => true) 0 1 := by decide

theorem witness_CompressorIsRunLengthForm : 1 ≤ 1 ∧ ascii "FF\n" ≠ [] ∧ hexTextFault (ascii "FF\n") 1 = none := by decide

/-- A text that comes back and one that does not. -/
theorem witness_CompressorRoundTripsUnlessSeedCounts :
    (1 ≤ 1 ∧ ascii "80\n" ≠ [] ∧ hexTextFault (ascii "80\n") 1 = none ∧ (ascii "80\n")[0]? ≠ (ascii "80\n")[1]?) ∧
    (hexTextFault (ascii "FF\n") 1 = none ∧ (ascii "FF\n")[0]? = (ascii "FF\n")[1]?) := by decide

theorem witness_CompressorOutputShape :
    1 ≤ 1 ∧ ascii "FF\nFF\n" ≠ [] ∧ hexTextFault (ascii "FF\nFF\n") 1 = none ∧ bang ∈ zplCompress (ascii "FF\nFF\n") 1 := by
  decide

/-- A text with a newline inside a pair, one in lower case, and the bytes around each range of digits. -/
theorem witness_HexToBytesIsStripThenPair :
    hexToBytes (ascii "F\nF") = .bytes [0xFF] ∧ pairBytes (strip (ascii "F\nF")) = some [0xFF] ∧
    hexToBytes (ascii "af") = .bytes [0xAF] ∧
    ∀ c ∈ ([0x2F, 0x3A, 0x40, 0x47, 0x60, 0x67] : Str), (c.toNat < 0x30 ∨ 0x39 < c.toNat) ∧
      (c.toNat < 0x41 ∨ 0x46 < c.toNat) ∧ (c.toNat < 0x61 ∨ 0x66 < c.toNat) := by decide

/-- A non-hex byte, and an odd number of digits. -/
theorem witness_HexFaultOffset : hexToBytes (ascii "0G1") = .fault 1 ∧ hexToBytes (ascii "ABC\n") = .fault 2 := by decide

theorem witness_Base64Shape : pad ∈ base64 (ascii "f") ∧ 0x5A ∈ (base64 (ascii "f")).take 2 := by decide

theorem witness_CrcIsLinearWithItsCheckValue : ([0x12, 0x34, 0x56] : Str).length = ([0xAB, 0xCD, 0xEF] : Str).length := by decide

theorem witness_FrameShape :
    (frameText false (base64 [0xFF, 0xFF])).drop ((base64 [0xFF, 0xFF]).length + 6) = ascii "2295" := by decide +kernel

/-- Each of the four framing forms, with the bytes it frames. -/
theorem witness_FramesDecodeToTheirBytes :
    (∃ s t : State, exec .frameB64 s = .next t ∧ t.deflateReq = none ∧ t.errCode = .ok ∧
      hexToBytes (s.inString s.inLen.toNat) = .bytes [0xFF, 0xFF]) ∧
    (∃ s t : State, exec .frameZ64 s = .next t ∧ t.deflateReq = none ∧ t.errCode = .ok ∧
      hexToBytes (s.inString s.inLen.toNat) = .bytes [0xFF, 0xFF]) ∧
    (∃ s t : State, exec .encode s = .next t ∧ t.deflateReq = none ∧ t.errCode = .ok ∧ s.enc = .base64) ∧
    (∃ s t : State, exec .encode s = .next t ∧ t.deflateReq = none ∧ t.errCode = .ok ∧ s.enc = .base64Deflate) :=
  ⟨⟨fed (ascii "FFFF") 4 14, _, rfl, by decide⟩,
    ⟨withEngine (fed (ascii "FFFF") 4 26) (.bytes zlibAnswer), _, rfl, by decide⟩,
    ⟨{ image 0 8 2 64 14 with enc := .base64 }, _, rfl, by decide⟩,
    ⟨withEngine { image 0 8 2 64 26 with enc := .base64Deflate } (.bytes zlibAnswer), _, rfl, by decide⟩⟩

/-- 95_test_vectors.md 2.3: a lowercase digit, a text cut short, and a byte where the newline is due. -/
theorem witness_HexTextFaultIsTheFirstBadOffset :
    hexTextFault (ascii "000a\n") 2 = some 3 ∧ hexTextFault (ascii "0000\n00") 2 = some 7 ∧
    hexTextFault (ascii "0000\r\n") 2 = some 4 := by decide

end Sys2Proof.Tests
end

section
/-! SUPPORT. The invariant of ZRE (`StateInv`): the reset state meets it and every step keeps it. The parts of the
invariant that speak of the parameters, the RAMs and the result registers (`StorageLegal`) are all that a completion
step has to respect, since `State.finish` sets every field that the other parts read. -/

namespace Sys2Proof.Machine

/-! ### The parts of the invariant -/

/-- The part of the invariant about stored data: the parameters, both RAMs, OUT_LEN and the size results. -/
def StorageLegal (s : State) : Prop := ParamsLegal s ∧ RamsLegal s ∧ OutValid s ∧ SizesInRange s

theorem stateInv_iff {s : State} :
    StateInv s ↔ StorageLegal s ∧ PhaseAgrees s ∧ ErrorAgrees s ∧ WorkInRange s.work := by
  simp only [StateInv, StorageLegal, and_assoc]

/-- With OUT_LEN = 0 no byte of OUT has to be known. -/
theorem outValid_of_outLen_zero {s : State} (h : s.outLen = 0) : OutValid s := by simp [OutValid, h]

/-- The free working state is drawn within its widths (10_state.md R46 to R48). -/
theorem Work.free_inRange (d : Nat) : WorkInRange (Work.free d) := by
  have hbits : Config.freeNat d 1 % 9 < 9 := Nat.mod_lt _ (by decide)
  have hcounter : Config.freeNat d 5 % 16385 < 16385 := Nat.mod_lt _ (by decide)
  exact ⟨Nat.le_of_lt_succ hbits, Nat.le_of_lt_succ hcounter, List.length_take_le _ _, List.length_take_le _ _,
    List.length_take_le _ _⟩

/-- One RAM's part of `RamsLegal`: canonical form, nothing held beyond the implemented size (20_memory.md R63, R64). -/
def Memory.Legal (m : Memory) (size : Nat) : Prop := m.wf ∧ ∀ c ∈ m.cells, c.1 < size

theorem ramsLegal_iff {s : State} : RamsLegal s ↔ s.inRam.Legal s.inSize.toNat ∧ s.outRam.Legal s.outSize.toNat :=
  Iff.rfl

theorem Memory.unknown_legal (d size : Nat) : (Memory.unknown d).Legal size :=
  ⟨Memory.wf_unknown d, fun _ hc => absurd hc List.not_mem_nil⟩

theorem Memory.ofString_legal (d : Nat) {t : Str} {size : Nat} (h : t.length ≤ size) :
    (Memory.ofString d t).Legal size := by
  refine ⟨Memory.wf_ofString d t, fun c hc => ?_⟩
  have hlt : c.1 < 0 + t.length := (cellsFrom_mem hc).2
  omega

theorem Memory.writeBytes_legal {m : Memory} {a size : Nat} {bs : Str} (hm : m.Legal size)
    (h : a + bs.length ≤ size) : (m.writeBytes a bs).Legal size := by
  obtain ⟨hwf, hcells⟩ := hm
  refine ⟨Memory.wf_writeBytes hwf a bs, fun c hc => ?_⟩
  rcases Memory.mem_writeBytes hc with ⟨-, hlt⟩ | hold
  · omega
  · exact hcells c hold

@[simp] theorem length_bytesOfWord (v : Word) (n : Nat) : (bytesOfWord v n).length = n := by
  induction n generalizing v with
  | zero => rfl
  | succ n ih => simp [bytesOfWord, ih]

/-! ### Resets -/

/-- Every register at its reset value meets what the invariant asks of registers and phase (10_state.md R50). -/
theorem stateInv_of_atResetValues {t : State} (hparams : ParamsLegal t) (hrams : RamsLegal t) (hv : AtResetValues t)
    (hwork : WorkInRange t.work) : StateInv t := by
  obtain ⟨⟨-, -, hphase, hdone, -, -, hcode, -, -⟩, -, -, -, hbpr, htotal, hlen, -, hinfo, hreq⟩ := hv
  refine ⟨hparams, hrams, outValid_of_outLen_zero hlen, ?_, ?_, ?_, hwork⟩
  · simp [SizesInRange, hbpr, htotal]
  · simp [PhaseAgrees, hphase, hdone, hreq]
  · simp [ErrorAgrees, hcode, hinfo]

theorem resetRegisters_atResetValues (s : State) : AtResetValues s.resetRegisters := by simp [AtResetValues]

/-- The sizes P_IN_SIZE and P_OUT_SIZE meet 00_scope.md R8, whatever their free constants are. -/
theorem reset_paramsLegal : ParamsLegal State.reset := by
  have hin := Config.inWords.isLt
  have hout := Config.outWords.isLt
  have ein : State.reset.inSize.toNat = 4 * (Config.inWords.val + 1) := by
    simp only [State.reset, Config.pInSize, BitVec.toNat_ofNat]
    omega
  have eout : State.reset.outSize.toNat = 4 * (Config.outWords.val + 4) := by
    simp only [State.reset, Config.pOutSize, BitVec.toNat_ofNat]
    omega
  unfold ParamsLegal
  omega

/-- Settles O25: the reset values, unknown RAMs and the free working state of draw 0. -/
theorem resetMeetsInvariant : Obligations.ResetMeetsInvariant :=
  stateInv_of_atResetValues reset_paramsLegal
    (ramsLegal_iff.2 ⟨Memory.unknown_legal 1 _, Memory.unknown_legal 2 _⟩)
    (by simp [AtResetValues, State.reset]) (Work.free_inRange 0)

theorem softReset_stateInv {s : State} (h : StateInv s) : StateInv s.softReset := by
  obtain ⟨hparams, hrams, -⟩ := h
  cases hp : s.phase with
  | idle =>
    rw [softReset_idle hp]
    exact stateInv_of_atResetValues hparams hrams (resetRegisters_atResetValues s) (Work.free_inRange _)
  | busy =>
    rw [softReset_busy hp]
    obtain ⟨hin, -⟩ := ramsLegal_iff.1 hrams
    exact stateInv_of_atResetValues hparams (ramsLegal_iff.2 ⟨hin, Memory.unknown_legal _ _⟩)
      (resetRegisters_atResetValues s) (Work.free_inRange _)

/-- Driving `rst_n` (70_reset_and_hazards.md R310): nothing happens, or the pin's level is set on a freshly reset state,
which is IDLE as the invariant asks of a state in reset. -/
theorem driveReset_stateInv {s : State} (h : StateInv s) (level : Bool) : StateInv (s.driveReset level) := by
  unfold State.driveReset
  split
  · exact h
  · obtain ⟨hparams, -⟩ := h
    exact stateInv_of_atResetValues hparams (ramsLegal_iff.2 ⟨Memory.unknown_legal _ _, Memory.unknown_legal _ _⟩)
      (resetRegisters_atResetValues s) (Work.free_inRange _)

/-! ### Host accesses -/

/-- An answer on the port writes no field that the invariant reads. -/
theorem answer_stateInv {s : State} (h : StateInv s) (r : BusReply) : StateInv (s.answer r) := h

theorem hostRead_stateInv {s : State} (h : StateInv s) (w : Width) (addr : Addr) : StateInv (s.hostRead w addr) := by
  rcases State.hostRead_cases s w addr with ⟨r, hr⟩ | ⟨-, hr⟩
  · rw [hr]; exact answer_stateInv h r
  · rw [hr]; exact h

/-- A CTRL write resets, or sets IRQ_EN, which the invariant does not read (10_state.md R25). -/
theorem writeCtrl_stateInv {s : State} (h : StateInv s) (v : Word) : StateInv (s.writeCtrl v) := by
  unfold State.writeCtrl
  split
  · exact softReset_stateInv h
  · exact h

/-- Accepting a command leaves DONE = 0, and out of reset BUSY is a legal phase (40_command_protocol.md R111). -/
theorem accept_stateInv {s : State} (h : StateInv s) (hr : s.rstN = true) (w : Word) : StateInv (s.accept w) := by
  obtain ⟨hstore, -, herror, hwork⟩ := stateInv_iff.1 h
  exact stateInv_iff.2 ⟨hstore, by simp [PhaseAgrees, hr], herror, hwork⟩

theorem clearStatus_stateInv {s : State} (h : StateInv s) (v : Word) : StateInv (s.clearStatus v) := by
  obtain ⟨hstore, ⟨hdone, hreq, hrst⟩, herror, hwork⟩ := stateInv_iff.1 h
  have hdone' : (s.clearStatus v).done = true → s.phase = .idle := fun hd => hdone (by simp_all)
  exact stateInv_iff.2 ⟨hstore, ⟨hdone', hreq, hrst⟩, herror, hwork⟩

/-- A register write out of reset: CTRL can reset, CMD starts a command, STATUS clears bits; the other registers a host
can write are inputs of commands, which the invariant does not read. -/
theorem writeReg_stateInv {s : State} (h : StateInv s) (hr : s.rstN = true) (v : Word) (r : Reg) :
    StateInv (s.writeReg v r) := by
  cases r with
  | ctrl => exact writeCtrl_stateInv h v
  | cmd => exact accept_stateInv h hr v
  | status => exact clearStatus_stateInv h v
  | config | width | height | inLen => exact h
  | id | bytesPerRow | totalBytes | outLen | crc | errInfo | inSize | outSize | reserved => exact h

/-- Bytes stored within the implemented IN (20_memory.md R63, R65). -/
theorem writeIn_stateInv {s : State} (h : StateInv s) {a : Nat} {bs : Str} (hfit : a + bs.length ≤ s.inSize.toNat) :
    StateInv { s with inRam := s.inRam.writeBytes a bs } := by
  obtain ⟨hparams, ⟨hin, hout⟩, hrest⟩ := h
  exact ⟨hparams, ⟨Memory.writeBytes_legal hin hfit, hout⟩, hrest⟩

theorem hostWrite_stateInv {s : State} (h : StateInv s) (hr : s.rstN = true) (w : Width) (addr : Addr) (v : Word) :
    StateInv (s.hostWrite w addr v) := by
  rcases State.hostWrite_cases s w addr v with ⟨-, hw⟩ | ⟨r, -, -, hw⟩ | ⟨a, -, ha, hw⟩ | hw
  · rw [hw]; exact h
  · rw [hw]; exact answer_stateInv (writeReg_stateInv h hr v r) _
  · rw [hw]
    obtain ⟨-, -, hfit⟩ := target_inRam_inv ha
    exact answer_stateInv (writeIn_stateInv h (by simpa using hfit)) _
  · rw [hw]; exact answer_stateInv h _

theorem access_stateInv {s : State} (h : StateInv s) (x : Access) : StateInv (s.access x) := by
  cases hr : s.rstN with
  | false => rw [access_in_reset hr]; exact answer_stateInv h _
  | true =>
    cases x with
    | read w addr => simpa [State.access, hr] using hostRead_stateInv h w addr
    | write w addr v => simpa [State.access, hr] using hostWrite_stateInv h hr w addr v

/-! ### What a command's `exec` returns -/

/-- An effect that keeps `StorageLegal` by itself: a register result within its range, or OUT_LEN <- 0. -/
def Effect.InRange : Effect → Prop
  | .out _ => False
  | .outLen n => n = 0
  | .bytesPerRow n => n ≤ 8192
  | .totalBytes n => n ≤ 536862720
  | .crc _ => True

/-- A result whose completion keeps the invariant: effects in range, after an output string that fits OUT with its own
length in OUT_LEN (20_memory.md R74), or an error with an error code (60_exceptions.md R281). -/
def CmdResult.Legal (s : State) : CmdResult → Prop
  | .ok es => (∀ e ∈ es, e.InRange) ∨
      ∃ p more, es = [.out p, .outLen p.length] ++ more ∧ p.length ≤ s.outSize.toNat ∧ ∀ e ∈ more, e.InRange
  | .error code _ => code ≠ .ok
  | .waiting _ => True

theorem emitOut_legal {s : State} {p : Str} {more : List Effect} (hmore : ∀ e ∈ more, e.InRange) :
    (emitOut s p more).Legal s := by
  rcases Nat.lt_or_ge s.outSize.toNat p.length with h | h
  · rw [emitOut_overflows h]; exact ErrCode.noConfusion
  · rw [emitOut_fits h]; exact .inr ⟨p, more, rfl, h, hmore⟩

theorem withPixelRegion_legal {s : State} {k : CmdResult} (hk : k.Legal s) : (withPixelRegion s k).Legal s := by
  rcases Nat.lt_or_ge s.inSize.toNat s.pixelBytes with h | h
  · rw [withPixelRegion_absent h]; exact ErrCode.noConfusion
  · rwa [withPixelRegion_fits h]

/-- IN_LEN has 25 bits (10_state.md R35), so no input string is longer. -/
theorem withInput_legal {s : State} {k : Str → CmdResult} (hk : ∀ t : Str, t.length < 33554432 → (k t).Legal s) :
    (withInput s k).Legal s := by
  rcases Nat.lt_or_ge s.inSize.toNat s.inLen.toNat with h | h
  · rw [withInput_absent h]; exact ErrCode.noConfusion
  · rw [withInput_fits h]
    exact hk _ (by simpa [State.inString] using s.inLen.isLt)

/-- BYTES_PER_ROW of a 16-bit width (10_state.md R36). -/
theorem bpr_le (w : BitVec 16) : bpr w.toNat ≤ 8192 := by
  have := w.isLt
  unfold bpr ceilDiv
  omega

/-- TOTAL_BYTES of a 16-bit width and height (10_state.md R37). -/
theorem totalBytesOf_le (w h : BitVec 16) : totalBytesOf w.toNat h.toNat ≤ 536862720 :=
  calc bpr w.toNat * h.toNat ≤ 8192 * 65535 := Nat.mul_le_mul (bpr_le w) (Nat.le_of_lt_succ h.isLt)
    _ = 536862720 := rfl

theorem sizeEffects_inRange (s : State) : ∀ e ∈ sizeEffects s, e.InRange := by
  simp [sizeEffects, Effect.InRange, bpr_le, totalBytesOf_le]

theorem packResult_legal (s : State) : (packResult s).Legal s :=
  withPixelRegion_legal (emitOut_legal (sizeEffects_inRange s))

/-- The rows of a hex text are shorter than the text, so TOTAL_BYTES stays far below its bound. -/
theorem compressResult_legal (s : State) : (compressResult s).Legal s := by
  refine withInput_legal fun t ht => ?_
  dsimp only
  split
  · exact ErrCode.noConfusion
  · split
    · exact ErrCode.noConfusion
    · refine emitOut_legal ?_
      have hrows : bpr s.width.toNat * (t.length / (2 * bpr s.width.toNat + 1)) ≤ t.length :=
        calc bpr s.width.toNat * (t.length / (2 * bpr s.width.toNat + 1))
            ≤ (2 * bpr s.width.toNat + 1) * (t.length / (2 * bpr s.width.toNat + 1)) :=
              Nat.mul_le_mul_right _ (by omega)
          _ ≤ t.length := Nat.mul_div_le _ _
      simp only [List.mem_cons, List.not_mem_nil, or_false, forall_eq_or_imp, forall_eq, Effect.InRange]
      exact ⟨bpr_le _, by omega⟩

theorem crc16Result_legal (s : State) : (crc16Result s).Legal s :=
  withInput_legal fun _ _ => .inl (by simp [Effect.InRange])

theorem base64Result_legal (s : State) : (base64Result s).Legal s :=
  withInput_legal fun _ _ => emitOut_legal (by simp)

/-- A frame: the engine's bytes framed, its failure, or a wait for it (44_binary_framer.md R210, R212). -/
theorem frameResult_legal {s : State} (z : Bool) (raw : Str) {more : List Effect} (hmore : ∀ e ∈ more, e.InRange) :
    (frameResult s z raw more).Legal s := by
  unfold frameResult
  split
  · refine emitOut_legal fun e he => ?_
    rcases List.mem_append.1 he with hm | hc
    · exact hmore e hm
    · rw [List.mem_singleton.1 hc]; trivial
  · exact ErrCode.noConfusion
  · trivial

theorem frameCommandResult_legal (s : State) (z : Bool) : (frameCommandResult s z).Legal s := by
  refine withInput_legal fun t _ => ?_
  split
  · exact ErrCode.noConfusion
  · exact frameResult_legal z _ (by simp)

theorem encodeHex_legal (s : State) : (encodeHex s).Legal s := by
  unfold encodeHex
  split
  · exact ErrCode.noConfusion
  · exact emitOut_legal (sizeEffects_inRange s)

theorem encodeResult_legal (s : State) : (encodeResult s).Legal s := by
  unfold encodeResult
  split
  · exact ErrCode.noConfusion
  · exact withPixelRegion_legal (encodeHex_legal s)
  · exact withPixelRegion_legal (frameResult_legal false _ (sizeEffects_inRange s))
  · exact withPixelRegion_legal (frameResult_legal true _ (sizeEffects_inRange s))

/-- Every command answers the completion of a legal result. -/
theorem exec_eq_complete_legal (i : Instr) (s : State) : ∃ k r, r.Legal s ∧ exec i s = .next (s.complete k r) := by
  cases i with
  | nop => exact ⟨true, .ok [], .inl (by simp), rfl⟩
  | encode => exact ⟨false, _, encodeResult_legal s, rfl⟩
  | pack => exact ⟨false, _, packResult_legal s, rfl⟩
  | compress => exact ⟨false, _, compressResult_legal s, rfl⟩
  | frameB64 => exact ⟨false, _, frameCommandResult_legal s false, rfl⟩
  | frameZ64 => exact ⟨false, _, frameCommandResult_legal s true, rfl⟩
  | base64 => exact ⟨false, _, base64Result_legal s, rfl⟩
  | crc16 => exact ⟨true, _, crc16Result_legal s, rfl⟩

/-! ### Completions -/

theorem apply_storageLegal {s : State} (h : StorageLegal s) {e : Effect} (he : e.InRange) :
    StorageLegal (s.apply e) := by
  obtain ⟨hparams, hrams, hout, hbpr, htotal⟩ := h
  cases e with
  | out t => exact he.elim
  | outLen n =>
    obtain rfl : n = 0 := he
    exact ⟨hparams, hrams, outValid_of_outLen_zero rfl, hbpr, htotal⟩
  | bytesPerRow n =>
    have hn : n % 2 ^ 32 ≤ 8192 := (Nat.mod_le _ _).trans he
    exact ⟨hparams, hrams, hout, by simpa using hn, htotal⟩
  | totalBytes n =>
    have hn : n % 2 ^ 32 ≤ 536862720 := (Nat.mod_le _ _).trans he
    exact ⟨hparams, hrams, hout, hbpr, by simpa using hn⟩
  | crc c => exact ⟨hparams, hrams, hout, hbpr, htotal⟩

theorem applyAll_storageLegal {s : State} (h : StorageLegal s) {es : List Effect} (hes : ∀ e ∈ es, e.InRange) :
    StorageLegal (s.applyAll es) := by
  induction es generalizing s with
  | nil => exact h
  | cons e es ih =>
    exact ih (apply_storageLegal h (hes e List.mem_cons_self)) fun x hx => hes x (List.mem_cons_of_mem _ hx)

/-- An output string that fits OUT, placed with its length, leaves every byte below OUT_LEN known (20_memory.md R74).
Between the two effects this need not hold, so they are taken together. -/
theorem apply_out_outLen_storageLegal {s : State} (h : StorageLegal s) {p : Str} (hp : p.length ≤ s.outSize.toNat) :
    StorageLegal ((s.apply (.out p)).apply (.outLen p.length)) := by
  obtain ⟨hparams, ⟨hin, -⟩, -, hsizes⟩ := h
  refine ⟨hparams, ⟨hin, Memory.ofString_legal _ hp⟩, ?_, hsizes⟩
  have hlen : (BitVec.ofNat 32 p.length).toNat = p.length := toNat_ofNat_le_word hp
  simp only [OutValid, State.apply_outLen_outLen, State.apply_outLen_outSize, State.apply_out_outSize,
    State.apply_outLen_outRam, State.apply_out_outRam, Memory.held_ofString, hlen]
  exact ⟨hp, fun a ha => by simp [ha]⟩

/-- The end of a completion step sets every field that the rest of the invariant reads (40_command_protocol.md R114). -/
theorem finish_stateInv {s : State} (h : StorageLegal s) {code : ErrCode} {info : Word}
    (hlen : code ≠ .ok → s.outLen = 0) (hinfo : code = .ok → info = 0) : StateInv (s.finish code info) :=
  stateInv_iff.2 ⟨h, by simp [PhaseAgrees], ⟨hlen, hinfo⟩, Work.free_inRange _⟩

/-- The error completion empties OUT and keeps the size results (60_exceptions.md R290). -/
theorem errorCompletion_stateInv {s : State} (h : StateInv s) (keepsOut : Bool) {code : ErrCode} (hcode : code ≠ .ok)
    (info : Word) : StateInv (s.errorCompletion keepsOut code info) := by
  obtain ⟨hparams, ⟨hin, hout⟩, -, hsizes, -⟩ := h
  refine finish_stateInv ?_ (fun _ => rfl) fun hok => absurd hok hcode
  refine ⟨hparams, ⟨hin, ?_⟩, outValid_of_outLen_zero rfl, hsizes⟩
  cases keepsOut with
  | true => exact hout
  | false => exact Memory.unknown_legal _ _

/-- A request outstanding goes with BUSY (44_binary_framer.md R210, 93_implementation_defined.md I16). -/
theorem waiting_stateInv {s : State} (h : StateInv s) (hbusy : s.phase = .busy) (raw : Str) :
    StateInv { s with deflateReq := some raw } := by
  obtain ⟨hstore, ⟨hdone, -, hrst⟩, herror, hwork⟩ := stateInv_iff.1 h
  exact stateInv_iff.2 ⟨hstore, ⟨hdone, fun _ => hbusy, hrst⟩, herror, hwork⟩

theorem complete_stateInv {s : State} (h : StateInv s) (hbusy : s.phase = .busy) (keepsOut : Bool) {r : CmdResult}
    (hr : r.Legal s) : StateInv (s.complete keepsOut r) := by
  obtain ⟨hstore, -⟩ := stateInv_iff.1 h
  cases r with
  | ok es =>
    refine finish_stateInv ?_ (fun hne => absurd rfl hne) fun _ => rfl
    rcases hr with hes | ⟨p, more, rfl, hp, hmore⟩
    · exact applyAll_storageLegal hstore hes
    · exact applyAll_storageLegal (apply_out_outLen_storageLegal hstore hp) hmore
  | error code info => exact errorCompletion_stateInv h keepsOut hr info
  | waiting raw => exact waiting_stateInv h hbusy raw

/-! ### Steps -/

/-- The sequencer completes a command only while BUSY, which is where a wait for the engine is legal. -/
theorem sequencerTurn_stateInv {s t : State} (h : StateInv s) (ht : sequencerTurn s = .next t) : StateInv t := by
  rcases sequencerTurn_cases s with ⟨-, he⟩ | ⟨hbusy, -, i, -, he⟩ | ⟨-, -, -, -, he⟩
  · obtain rfl := Host.Outcome.next.inj (he.symm.trans ht)
    exact h
  · obtain ⟨keepsOut, r, hr, hx⟩ := exec_eq_complete_legal i s
    obtain rfl := Host.Outcome.next.inj ((he.trans hx).symm.trans ht)
    exact complete_stateInv h (by simpa [State.busy] using hbusy) keepsOut hr
  · obtain rfl := Host.Outcome.next.inj (he.symm.trans ht)
    exact errorCompletion_stateInv h true ErrCode.noConfusion s.cmd

/-- The invariant does not read the schedule of pending inputs. -/
theorem inputs_stateInv {s : State} (h : StateInv s) (rest : List Event) : StateInv { s with inputs := rest } := h

/-- Settles O24, by the three kinds of step. -/
theorem stepKeepsInvariant : Obligations.StepKeepsInvariant := by
  intro s t h ht
  rcases step_cases ht with ⟨x, rest, -, rfl⟩ | ⟨level, rest, -, rfl⟩ | ⟨rest, -, hturn⟩
  · exact access_stateInv (inputs_stateInv h rest) x
  · exact driveReset_stateInv (inputs_stateInv h rest) level
  · exact sequencerTurn_stateInv (inputs_stateInv h rest) hturn

end Sys2Proof.Machine
end

section
/-! SUPPORT. The registers of ZRE on the host port (10_state.md): their reset values, what a read of each returns, what a
write of each does when it is performed and when it is dropped, and which event sets each bit of STATUS. -/

namespace Sys2Proof.Machine

/-! ### Reset values -/

theorem softReset_atResetValues (s : State) : AtResetValues s.softReset := by
  cases hp : s.phase with
  | idle => rw [softReset_idle hp]; exact resetRegisters_atResetValues s
  | busy => rw [softReset_busy hp]; exact resetRegisters_atResetValues s

/-- No reset changes the parameters (10_state.md R41). -/
theorem softReset_sizes (s : State) : s.softReset.inSize = s.inSize ∧ s.softReset.outSize = s.outSize := by
  cases hp : s.phase with
  | idle => simp [softReset_idle hp]
  | busy => simp [softReset_busy hp]

theorem hardwareReset_atResetValues (s : State) : AtResetValues s.hardwareReset := resetRegisters_atResetValues s

/-- P_IN_SIZE is small enough for the 32 bits of IN_SIZE (00_scope.md R8). -/
theorem reset_inSize_toNat : State.reset.inSize.toNat = Config.pInSize := by
  have hlt := Config.inWords.isLt
  simp only [State.reset, Config.pInSize, BitVec.toNat_ofNat]
  omega

theorem reset_outSize_toNat : State.reset.outSize.toNat = Config.pOutSize := by
  have hlt := Config.outWords.isLt
  simp only [State.reset, Config.pOutSize, BitVec.toNat_ofNat]
  omega

/-- Settles O14, from the part common to all resets. -/
theorem resetLeavesR50Values : Obligations.ResetLeavesR50Values :=
  ⟨⟨by simp [AtResetValues, State.reset], reset_inSize_toNat, reset_outSize_toNat⟩,
    fun s => ⟨softReset_atResetValues s, softReset_sizes s⟩,
    fun s => ⟨hardwareReset_atResetValues s, rfl, rfl⟩, fun _ => rfl⟩

/-! ### The register window -/

/-- The 32-bit bus address `addr` is that of register `r` (10_state.md R20, R42). -/
abbrev RegisterAt (addr : Addr) (r : Reg) : Prop := addr.toNat < 0x1000 ∧ addr.toNat % 4 = 0 ∧ regAt addr.toNat = r

theorem target_registerAt {s : State} {w : Width} {addr : Addr} {r : Reg} (h : s.target w addr = .register r) :
    w = .w32 ∧ RegisterAt addr r := by
  obtain ⟨hw, hlt, h4, hreg⟩ := target_register_inv h
  exact ⟨hw, hlt, h4, hreg.symm⟩

theorem RegisterAt.eq_of_ctrl {addr : Addr} (h : RegisterAt addr .ctrl) : addr = 0x04 := by
  obtain ⟨-, h4, hreg⟩ := h
  exact BitVec.eq_of_toNat_eq (regAt_ctrl_inv h4 hreg)

theorem RegisterAt.eq_of_cmd {addr : Addr} (h : RegisterAt addr .cmd) : addr = 0x08 := by
  obtain ⟨-, h4, hreg⟩ := h
  exact BitVec.eq_of_toNat_eq (regAt_cmd_inv h4 hreg)

/-- Beyond the fifteen registers every aligned offset of the window is reserved (10_state.md R42). -/
theorem registerAt_reserved {addr : Addr} (hlo : 0x3C ≤ addr.toNat) (hhi : addr.toNat < 0x1000)
    (h4 : addr.toNat % 4 = 0) : RegisterAt addr .reserved := by
  refine ⟨hhi, h4, ?_⟩
  unfold regAt
  split
  case h_16 => rfl
  all_goals omega

/-- A register write out of reset that is not one of the dropped ones is performed. -/
theorem access_write_performed {s : State} (hr : s.rstN = true) {addr : Addr} {r : Reg} (ha : RegisterAt addr r)
    (hdrop : (s.busy && isDroppedReg r) = false) (v : Word) :
    s.access (.write .w32 addr v) = (s.writeReg v r).answer .done := by
  obtain ⟨hlt, h4, rfl⟩ := ha
  simp [access_writeReg hr hlt h4, hdrop]

/-- While BUSY a write of CMD or of a command's input register is dropped (10_state.md R43). -/
theorem access_write_dropped {s : State} (hbusy : s.phase = .busy) (hr : s.rstN = true) {addr : Addr} {r : Reg}
    (ha : RegisterAt addr r) (hdrop : isDroppedReg r = true) (v : Word) :
    s.access (.write .w32 addr v) = s.dropWrite := by
  obtain ⟨hlt, h4, rfl⟩ := ha
  simp [access_writeReg hr hlt h4, hdrop, busy_of_busy hbusy]

/-- The registers whose writes are ignored: the read-only ones and the reserved offsets (10_state.md R20, R42). -/
def ignoresWrites : Reg → Bool
  | .id | .bytesPerRow | .totalBytes | .outLen | .crc | .errInfo | .inSize | .outSize | .reserved => true
  | .ctrl | .cmd | .status | .config | .width | .height | .inLen => false

theorem writeReg_of_ignoresWrites {r : Reg} (h : ignoresWrites r = true) (s : State) (v : Word) : s.writeReg v r = s := by
  cases r with
  | id | bytesPerRow | totalBytes | outLen | crc | errInfo | inSize | outSize | reserved => rfl
  | ctrl | cmd | status | config | width | height | inLen => cases h

theorem isDroppedReg_of_ignoresWrites {r : Reg} (h : ignoresWrites r = true) : isDroppedReg r = false := by
  cases r with
  | id | bytesPerRow | totalBytes | outLen | crc | errInfo | inSize | outSize | reserved => rfl
  | ctrl | cmd | status | config | width | height | inLen => cases h

/-- A write of a read-only register is answered and ignored, in either phase. -/
theorem access_write_ignored {s : State} (hr : s.rstN = true) {addr : Addr} {r : Reg} (ha : RegisterAt addr r)
    (hi : ignoresWrites r = true) (v : Word) : s.access (.write .w32 addr v) = s.answer .done := by
  rw [access_write_performed hr ha (by simp [isDroppedReg_of_ignoresWrites hi]), writeReg_of_ignoresWrites hi]

theorem writeCtrl_of_srst {v : Word} (h : v.getLsbD 1 = true) (s : State) : s.writeCtrl v = s.softReset :=
  if_pos h

theorem writeCtrl_of_not_srst {v : Word} (h : v.getLsbD 1 = false) (s : State) :
    s.writeCtrl v = { s with irqEn := v.getLsbD 0 } :=
  if_neg (ne_true_of_eq_false h)

/-- A CTRL write without SRST sets IRQ_EN, in either phase (10_state.md R25). -/
theorem access_writeCtrl_of_not_srst {s : State} (hr : s.rstN = true) {v : Word} (h : v.getLsbD 1 = false) :
    s.access (.write .w32 0x04 v) = { s with irqEn := v.getLsbD 0, reply := .done } := by
  rw [access_writeCtrl hr, writeCtrl_of_not_srst h]; rfl

/-! ### Register reads -/

/-- A register that is not a result register, or any register when idle, reads its value (10_state.md R44). -/
theorem access_read_reply {s : State} (hr : s.rstN = true) {addr : Addr} {r : Reg} (ha : RegisterAt addr r)
    (hexact : (s.busy && isResultReg r) = false) : (s.access (.read .w32 addr)).reply = .data (s.readReg r) := by
  obtain ⟨hlt, h4, rfl⟩ := ha
  simp [access_readReg hr hlt h4, hexact]

theorem access_read_reply_plain {s : State} (hr : s.rstN = true) {addr : Addr} {r : Reg} (ha : RegisterAt addr r)
    (hplain : isResultReg r = false) : (s.access (.read .w32 addr)).reply = .data (s.readReg r) :=
  access_read_reply hr ha (by simp [hplain])

theorem access_read_reply_idle {s : State} (hr : s.rstN = true) (hidle : s.phase = .idle) {addr : Addr} {r : Reg}
    (ha : RegisterAt addr r) : (s.access (.read .w32 addr)).reply = .data (s.readReg r) :=
  access_read_reply hr ha (by simp [busy_of_idle hidle])

theorem EncKind.toNat_lt (k : EncKind) : k.toNat < 4 := by cases k <;> decide

theorem ErrCode.toNat_lt (c : ErrCode) : c.toNat < 8 := by cases c <;> decide

/-- THRESHOLD stands above the 8 low bits, so the two fields of CONFIG add up (10_state.md R30 to R32). -/
theorem configWord_eq (s : State) : s.configWord = BitVec.ofNat 32 (256 * s.threshold.toNat + s.enc.toNat) := by
  have henc := s.enc.toNat_lt
  have hthr : s.threshold.setWidth 32 <<< 8 = BitVec.ofNat 32 (256 * s.threshold.toNat) := by
    rw [BitVec.shiftLeft_eq_mul_twoPow]
    bv_omega
  have hor : 256 * s.threshold.toNat ||| s.enc.toNat = 256 * s.threshold.toNat + s.enc.toNat :=
    (Nat.two_pow_add_eq_or_of_lt (i := 8) (by omega) s.threshold.toNat).symm
  rw [State.configWord, hthr, ← BitVec.ofNat_or, hor]

/-- The codes of CONFIG.ENC as 10_state.md R30 writes them out. -/
theorem encCodes_toNat : ∀ p ∈ [(EncKind.hexCompressed, 0), (.base64, 1), (.base64Deflate, 2), (.fourth, 3)],
    p.1.toNat = p.2 := by decide

/-- The error codes as 60_exceptions.md R281 writes them out. -/
theorem errCodes_toNat : ∀ p ∈ [(ErrCode.ok, 0), (.invalidInput, 1), (.invalidEncoding, 2),
    (.unsupportedEncodingKind, 3), (.illegalCommand, 4), (.degenerateRaster, 5), (.deflateError, 6),
    (.outputOverflow, 7)], p.1.toNat = p.2 := by decide

theorem statusBits_le (s : State) :
    s.busy.toNat ≤ 1 ∧ s.done.toNat ≤ 1 ∧ s.err.toNat ≤ 1 ∧ s.wdrop.toNat ≤ 1 :=
  ⟨s.busy.toNat_le, s.done.toNat_le, s.err.toNat_le, s.wdrop.toNat_le⟩

theorem statusWord_toNat (s : State) : s.statusWord.toNat =
    s.busy.toNat + 2 * s.done.toNat + 4 * s.err.toNat + 8 * s.wdrop.toNat + 256 * s.errCode.toNat := by
  have hcode := s.errCode.toNat_lt
  have hbits := statusBits_le s
  simp only [State.statusWord, BitVec.toNat_ofNat]
  omega

theorem getLsbD_eq_of_div_mod {n k : Nat} {v : BitVec n} {b : Bool} (h : v.toNat / 2 ^ k % 2 = b.toNat) :
    v.getLsbD k = b := by
  rw [← Nat.toNat_testBit] at h
  exact Function.LeftInverse.injective Bool.ofNat_toNat h

/-- The one-bit fields of STATUS (10_state.md R28). -/
theorem statusWord_bits (s : State) : s.statusWord.getLsbD 0 = s.busy ∧ s.statusWord.getLsbD 1 = s.done ∧
    s.statusWord.getLsbD 2 = s.err ∧ s.statusWord.getLsbD 3 = s.wdrop := by
  have hword := statusWord_toNat s
  have hbits := statusBits_le s
  refine ⟨getLsbD_eq_of_div_mod ?_, getLsbD_eq_of_div_mod ?_, getLsbD_eq_of_div_mod ?_, getLsbD_eq_of_div_mod ?_⟩
  all_goals omega

/-- ERRCODE stands at bits 11..8 of STATUS, with zeros on both sides (10_state.md R28). -/
theorem statusWord_fields (s : State) : s.statusWord.extractLsb' 4 4 = 0 ∧
    (s.statusWord.extractLsb' 8 4).toNat = s.errCode.toNat ∧ s.statusWord.extractLsb' 12 20 = 0 := by
  have hword := statusWord_toNat s
  have hcode := s.errCode.toNat_lt
  have hbits := statusBits_le s
  refine ⟨BitVec.eq_of_toNat_eq ?_, ?_, BitVec.eq_of_toNat_eq ?_⟩
  all_goals
    simp only [BitVec.extractLsb'_toNat, Nat.shiftRight_eq_div_pow, BitVec.ofNat_eq_ofNat, BitVec.toNat_ofNat]
    omega

theorem busy_iff (s : State) : s.busy = true ↔ s.phase = .busy := by simp [State.busy]

/-- Settles O18: each read is `access_read_reply` at the register's address, and the fields of CONFIG and STATUS are
where `configWord_eq`, `statusWord_bits` and `statusWord_fields` say. -/
theorem registerReadsReturnFields : Obligations.RegisterReadsReturnFields := by
  intro s hr
  refine ⟨⟨?id, ?ctrl, ?cmd, ?config, ?width, ?height, ?inLen, ?inSize, ?outSize⟩, ?status, ?reserved, ?results⟩
  case id => exact access_read_reply_plain hr (r := .id) (by decide) rfl
  case ctrl => exact access_read_reply_plain hr (r := .ctrl) (by decide) rfl
  case cmd => exact access_read_reply_plain hr (r := .cmd) (by decide) rfl
  case config =>
    intro p hp henc
    rw [access_read_reply_plain hr (r := .config) (by decide) rfl, ← encCodes_toNat p hp, ← henc, ← configWord_eq]
    rfl
  case width => simpa [State.readReg] using access_read_reply_plain hr (r := .width) (addr := 0x14) (by decide) rfl
  case height => simpa [State.readReg] using access_read_reply_plain hr (r := .height) (addr := 0x18) (by decide) rfl
  case inLen => simpa [State.readReg] using access_read_reply_plain hr (r := .inLen) (addr := 0x1C) (by decide) rfl
  case inSize => exact access_read_reply_plain hr (r := .inSize) (by decide) rfl
  case outSize => exact access_read_reply_plain hr (r := .outSize) (by decide) rfl
  case status =>
    obtain ⟨hbusy, hdone, herr, hwdrop⟩ := statusWord_bits s
    obtain ⟨hlow, hcode, hhigh⟩ := statusWord_fields s
    refine ⟨s.statusWord, access_read_reply_plain hr (r := .status) (by decide) rfl, ?_, hdone, herr, hwdrop, hlow,
      fun p hp hpc => ?_, hhigh⟩
    · rw [hbusy, busy_iff]
    · rw [hcode, hpc, errCodes_toNat p hp]
  case reserved =>
    intro addr hlo hhi h4
    have ha := registerAt_reserved hlo hhi h4
    exact ⟨access_read_reply_plain hr ha rfl, access_write_ignored hr ha rfl⟩
  case results =>
    intro hidle
    refine ⟨?_, ?_, ?_, ?_, ?_⟩
    · exact access_read_reply_idle hr hidle (r := .bytesPerRow) (by decide)
    · exact access_read_reply_idle hr hidle (r := .totalBytes) (by decide)
    · exact access_read_reply_idle hr hidle (r := .outLen) (by decide)
    · simpa [State.readReg] using access_read_reply_idle hr hidle (r := .crc) (addr := 0x2C) (by decide)
    · exact access_read_reply_idle hr hidle (r := .errInfo) (by decide)

/-! ### Register writes -/

/-- When idle no register write is dropped (10_state.md R43). -/
theorem access_write_idle {s : State} (hr : s.rstN = true) (hidle : s.phase = .idle) {addr : Addr} {r : Reg}
    (ha : RegisterAt addr r) (v : Word) : s.access (.write .w32 addr v) = (s.writeReg v r).answer .done :=
  access_write_performed hr ha (by simp [busy_of_idle hidle]) v

theorem EncKind.ofBits_eq {b : BitVec 2} {k : EncKind} (h : b.toNat = k.toNat) : EncKind.ofBits b = k := by
  unfold EncKind.ofBits
  rw [h]
  cases k <;> rfl

/-- Settles O19: each write is performed as `State.writeReg` says. -/
theorem registerWritesStoreFields : Obligations.RegisterWritesStoreFields := by
  intro s v hr
  refine ⟨access_writeStatus hr v, access_writeCtrl_of_not_srst hr, fun hidle => ⟨fun p hp hv => ?_, ?_, ?_, ?_⟩⟩
  · have henc : EncKind.ofBits (v.extractLsb' 0 2) = p.1 :=
      EncKind.ofBits_eq (by rw [encCodes_toNat p hp, ← hv]; simp)
    rw [access_write_idle hr hidle (r := .config) (by decide), ← henc]
    rfl
  · exact access_write_idle hr hidle (r := .width) (by decide) v
  · exact access_write_idle hr hidle (r := .height) (by decide) v
  · exact access_write_idle hr hidle (r := .inLen) (by decide) v

/-! ### Host accesses while BUSY -/

/-- Everything a host access can do: answer (with an error, or with a free value while BUSY), drop a write, write a
register, or store bytes in IN (20_memory.md R65 to R68, 10_state.md R43, R44). -/
theorem access_cases (s : State) (x : Access) :
    (∃ reply, s.access x = s.answer reply) ∨
    (∃ w, s.access x = s.answerFree w) ∨
    (s.phase = .busy ∧ (∃ w addr v, x = .write w addr v) ∧ s.access x = s.dropWrite) ∨
    (∃ addr v r, x = .write .w32 addr v ∧ RegisterAt addr r ∧ (s.busy && isDroppedReg r) = false ∧
      s.access x = (s.writeReg v r).answer .done) ∨
    (s.phase = .idle ∧ ∃ m, s.access x = ({ s with inRam := m } : State).answer .done) := by
  rcases Bool.eq_false_or_eq_true s.rstN with hr | hr
  · cases x with
    | read w addr =>
      have hx : s.access (.read w addr) = s.hostRead w addr := by simp [State.access, hr]
      rw [hx]
      rcases State.hostRead_cases s w addr with h | ⟨-, h⟩
      · exact .inl h
      · exact .inr (.inl ⟨w, h⟩)
    | write w addr v =>
      have hx : s.access (.write w addr v) = s.hostWrite w addr v := by simp [State.access, hr]
      rw [hx]
      rcases State.hostWrite_cases s w addr v with ⟨hb, h⟩ | ⟨r, hd, ht, h⟩ | ⟨a, hb, -, h⟩ | h
      · exact .inr (.inr (.inl ⟨(busy_iff s).1 hb, ⟨w, addr, v, rfl⟩, h⟩))
      · obtain ⟨rfl, ha⟩ := target_registerAt ht
        exact .inr (.inr (.inr (.inl ⟨addr, v, r, rfl, ha, hd, h⟩)))
      · have hidle : s.phase = .idle := by cases hp : s.phase <;> simp_all [State.busy]
        exact .inr (.inr (.inr (.inr ⟨hidle, _, h⟩)))
      · exact .inl ⟨_, h⟩
  · exact .inl ⟨_, access_in_reset hr x⟩

/-- All that a host access may change while BUSY, other than a soft reset: IRQ_EN, the three W1C bits, the answer and the
draw counter (10_state.md R43, 40_command_protocol.md R113). -/
def ChangesPortOnly (s t : State) : Prop :=
  ∃ (e d r w : Bool) (reply : BusReply) (n : Nat),
    t = { s with irqEn := e, done := d, err := r, wdrop := w, reply := reply, draws := n }

/-- A register write that is not dropped while BUSY, and is no soft reset: CTRL, STATUS, or an ignored one. -/
theorem writeReg_not_dropped_changesPortOnly {s : State} {v : Word} {r : Reg} (hdrop : isDroppedReg r = false)
    (hsrst : r = .ctrl → v.getLsbD 1 = false) : ChangesPortOnly s ((s.writeReg v r).answer .done) := by
  cases r with
  | ctrl =>
    rw [State.writeReg, writeCtrl_of_not_srst (hsrst rfl)]
    exact ⟨_, _, _, _, _, _, rfl⟩
  | status => exact ⟨_, _, _, _, _, _, rfl⟩
  | cmd | config | width | height | inLen => cases hdrop
  | id | bytesPerRow | totalBytes | outLen | crc | errInfo | inSize | outSize | reserved =>
    exact ⟨_, _, _, _, _, _, rfl⟩

theorem access_busy_changesPortOnly {s : State} (hbusy : s.phase = .busy) {x : Access}
    (hx : ∀ w u, x = .write w 0x04 u → u.getLsbD 1 = false) : ChangesPortOnly s (s.access x) := by
  rcases access_cases s x with ⟨reply, h⟩ | ⟨w, h⟩ | ⟨-, -, h⟩ | ⟨addr, v, r, rfl, ha, hd, h⟩ | ⟨hidle, -⟩
  · rw [h]; exact ⟨_, _, _, _, _, _, rfl⟩
  · rw [h]; exact ⟨_, _, _, _, _, _, rfl⟩
  · rw [h]; exact ⟨_, _, _, _, _, _, rfl⟩
  · rw [h]
    refine writeReg_not_dropped_changesPortOnly (by simpa [busy_of_busy hbusy] using hd) ?_
    rintro rfl
    exact hx .w32 v (by rw [ha.eq_of_ctrl])
  · rw [hbusy] at hidle; cases hidle

/-- Settles O10: the drops, the writes that are still performed, and the frame `access_busy_changesPortOnly`. -/
theorem busyDropsInputWrites : Obligations.BusyDropsInputWrites := by
  intro s v hbusy hr
  refine ⟨?droppedRegs, ?droppedIn, access_writeCtrl_of_not_srst hr, ?srst, access_writeStatus hr v, ?readOnly, ?frame⟩
  case droppedRegs =>
    rintro addr (rfl | rfl | rfl | rfl | rfl)
    · exact access_write_dropped hbusy hr (r := .cmd) (by decide) rfl v
    · exact access_write_dropped hbusy hr (r := .config) (by decide) rfl v
    · exact access_write_dropped hbusy hr (r := .width) (by decide) rfl v
    · exact access_write_dropped hbusy hr (r := .height) (by decide) rfl v
    · exact access_write_dropped hbusy hr (r := .inLen) (by decide) rfl v
  case droppedIn =>
    intro w a ha
    rw [access_writeIn hr ha, busy_of_busy hbusy]
    rfl
  case srst =>
    intro hsrst
    obtain ⟨⟨-, -, hphase, -⟩, -⟩ := softReset_atResetValues s
    rw [access_writeCtrl hr, writeCtrl_of_srst hsrst, State.answer_phase, hphase]
  case readOnly =>
    rintro addr (rfl | rfl | rfl | rfl | rfl | rfl | rfl | rfl)
    · exact access_write_ignored hr (r := .id) (by decide) rfl v
    · exact access_write_ignored hr (r := .bytesPerRow) (by decide) rfl v
    · exact access_write_ignored hr (r := .totalBytes) (by decide) rfl v
    · exact access_write_ignored hr (r := .outLen) (by decide) rfl v
    · exact access_write_ignored hr (r := .crc) (by decide) rfl v
    · exact access_write_ignored hr (r := .errInfo) (by decide) rfl v
    · exact access_write_ignored hr (r := .inSize) (by decide) rfl v
    · exact access_write_ignored hr (r := .outSize) (by decide) rfl v
  case frame =>
    intro x hx
    obtain ⟨e, d, r, w, reply, n, h⟩ := access_busy_changesPortOnly hbusy hx
    rw [h]
    exact ⟨rfl, rfl, rfl, rfl, rfl, rfl, hbusy, fun _ => rfl⟩

/-! ### Which events set the bits of STATUS -/

/-- No bit of STATUS is set on the way from `s` to `t`, and neither the phase nor ERRCODE changes. -/
def RaisesNothing (s t : State) : Prop :=
  t.phase = s.phase ∧ t.errCode = s.errCode ∧ (s.done = false → t.done = false) ∧ (s.err = false → t.err = false) ∧
  (s.wdrop = false → t.wdrop = false)

/-- The kinds of step, as far as STATUS can see them (10_state.md R28). -/
inductive StatusEvent (s t : State) : Prop where
  /-- No bit is set. -/
  | quiet (h : RaisesNothing s t)
  /-- A soft or a hardware reset. -/
  | reset (h : AtResetValues t)
  /-- A host write dropped while BUSY (10_state.md R43). -/
  | drop (hbusy : s.phase = .busy) (hwrite : ∃ w addr v rest, s.inputs = .host (.write w addr v) :: rest)
      (h : RaisesNothing { s with wdrop := true } t)
  /-- An accepted command (40_command_protocol.md R111). -/
  | acceptance (hwrite : ∃ w rest, s.inputs = .host (.write .w32 0x08 w) :: rest ∧ t.cmd = w)
      (h : RaisesNothing { s with phase := .busy, done := false } t)
  /-- A completion step (40_command_protocol.md R114). -/
  | completion (hbusy : s.phase = .busy) (hwdrop : t.wdrop = s.wdrop) (h : Completed t.errCode t.errInfo s t)

theorem clearStatus_raisesNothing (s : State) (v : Word) : RaisesNothing s (s.clearStatus v) :=
  ⟨rfl, rfl, by simp +contextual, by simp +contextual, by simp +contextual⟩

theorem writeCtrl_raisesNothing_or_resets (s : State) (v : Word) :
    RaisesNothing s (s.writeCtrl v) ∨ AtResetValues (s.writeCtrl v) := by
  cases hv : v.getLsbD 1 with
  | true => rw [writeCtrl_of_srst hv]; exact .inr (softReset_atResetValues s)
  | false => rw [writeCtrl_of_not_srst hv]; exact .inl ⟨rfl, rfl, id, id, id⟩

/-- A register write sets no bit of STATUS and starts nothing, but for a soft reset and an accepted command. -/
theorem writeReg_raisesNothing (s : State) (v : Word) {r : Reg} (hcmd : r ≠ .cmd) :
    RaisesNothing s (s.writeReg v r) ∨ AtResetValues (s.writeReg v r) := by
  cases r with
  | cmd => exact absurd rfl hcmd
  | ctrl => exact writeCtrl_raisesNothing_or_resets s v
  | status => exact .inl (clearStatus_raisesNothing s v)
  | config | width | height | inLen => exact .inl ⟨rfl, rfl, id, id, id⟩
  | id | bytesPerRow | totalBytes | outLen | crc | errInfo | inSize | outSize | reserved =>
    exact .inl ⟨rfl, rfl, id, id, id⟩

theorem access_statusEvent {s : State} {x : Access} {rest : List Event} (hin : s.inputs = .host x :: rest) :
    StatusEvent s (({ s with inputs := rest } : State).access x) := by
  rcases access_cases { s with inputs := rest } x with
    ⟨reply, h⟩ | ⟨w, h⟩ | ⟨hbusy, ⟨w, addr, v, rfl⟩, h⟩ | ⟨addr, v, r, rfl, ha, -, h⟩ | ⟨-, m, h⟩
  · rw [h]; exact .quiet ⟨rfl, rfl, id, id, id⟩
  · rw [h]; exact .quiet ⟨rfl, rfl, id, id, id⟩
  · rw [h]; exact .drop hbusy ⟨w, addr, v, rest, hin⟩ ⟨rfl, rfl, id, id, id⟩
  · rw [h]
    by_cases hcmd : r = .cmd
    · subst hcmd
      rw [ha.eq_of_cmd] at hin
      exact .acceptance ⟨v, rest, hin, rfl⟩ ⟨rfl, rfl, id, id, id⟩
    · rcases writeReg_raisesNothing { s with inputs := rest } v hcmd with hquiet | hreset
      · exact .quiet hquiet
      · exact .reset hreset
  · rw [h]; exact .quiet ⟨rfl, rfl, id, id, id⟩

theorem driveReset_statusEvent (s : State) (rest : List Event) (level : Bool) :
    StatusEvent s (({ s with inputs := rest } : State).driveReset level) := by
  unfold State.driveReset
  split
  · exact .quiet ⟨rfl, rfl, id, id, id⟩
  · exact .reset (hardwareReset_atResetValues { s with inputs := rest })

/-- A command completes, or waits for the engine with its request outstanding (40_command_protocol.md R114,
93_implementation_defined.md I16). -/
theorem complete_completed_or_waits (s : State) (keepsOut : Bool) (r : CmdResult) :
    (∃ code info, Completed code info s (s.complete keepsOut r)) ∨
    (∃ raw, s.complete keepsOut r = { s with deflateReq := some raw }) := by
  cases r with
  | ok es => exact .inl ⟨_, _, State.complete_ok_completed s keepsOut es⟩
  | error code info => exact .inl ⟨_, _, (State.complete_error_failedWith s keepsOut code info).1⟩
  | waiting raw => exact .inr ⟨raw, rfl⟩

theorem Completed.self_codes {code : ErrCode} {info : Word} {s t : State} (h : Completed code info s t) :
    Completed t.errCode t.errInfo s t := by
  obtain ⟨hphase, hdone, herr, rfl, rfl, hreq⟩ := h
  exact ⟨hphase, hdone, herr, rfl, rfl, hreq⟩

/-- What a command's completion means for STATUS: nothing while it waits, else a completion step. -/
theorem complete_quiet_or_completes (s : State) (keepsOut : Bool) (r : CmdResult) :
    RaisesNothing s (s.complete keepsOut r) ∨
    ((s.complete keepsOut r).wdrop = s.wdrop ∧
      Completed (s.complete keepsOut r).errCode (s.complete keepsOut r).errInfo s (s.complete keepsOut r)) := by
  rcases complete_completed_or_waits s keepsOut r with ⟨code, info, h⟩ | ⟨raw, h⟩
  · obtain ⟨⟨-, -, hwdrop, -⟩, -⟩ := State.complete_sameInputs s keepsOut r
    exact .inr ⟨hwdrop, h.self_codes⟩
  · rw [h]; exact .inl ⟨rfl, rfl, id, id, id⟩

theorem sequencerTurn_quiet_or_completes {s t : State} (ht : sequencerTurn s = .next t) :
    RaisesNothing s t ∨ (s.phase = .busy ∧ t.wdrop = s.wdrop ∧ Completed t.errCode t.errInfo s t) := by
  rcases sequencerTurn_cases s with ⟨-, he⟩ | ⟨hbusy, -, i, -, he⟩ | ⟨hbusy, -, -, -, he⟩
  · obtain rfl := Host.Outcome.next.inj (he.symm.trans ht)
    exact .inl ⟨rfl, rfl, id, id, id⟩
  · obtain ⟨keepsOut, r, hx⟩ := exec_eq_complete i s
    obtain rfl := Host.Outcome.next.inj ((he.trans hx).symm.trans ht)
    exact (complete_quiet_or_completes s keepsOut r).imp_right fun h => ⟨(busy_iff s).1 hbusy, h⟩
  · obtain rfl := Host.Outcome.next.inj (he.symm.trans ht)
    exact (complete_quiet_or_completes s true (.error .illegalCommand s.cmd)).imp_right
      fun h => ⟨(busy_iff s).1 hbusy, h⟩

/-- Every step is one of the five events of STATUS. -/
theorem step_statusEvent {s t : State} (h : step s = .next t) : StatusEvent s t := by
  rcases step_cases h with ⟨x, rest, hin, rfl⟩ | ⟨level, rest, -, rfl⟩ | ⟨rest, -, hturn⟩
  · exact access_statusEvent hin
  · exact driveReset_statusEvent s rest level
  · rcases sequencerTurn_quiet_or_completes hturn with hquiet | ⟨hbusy, hwdrop, hc⟩
    · exact .quiet hquiet
    · exact .completion hbusy hwdrop hc

/-- Settles O23: each event of STATUS against the five clauses. -/
theorem statusBitsAreSetOnlyByTheirEvents : Obligations.StatusBitsAreSetOnlyByTheirEvents := by
  intro s t h
  cases step_statusEvent h with
  | quiet h =>
    obtain ⟨hphase, hcode, hdone, herr, hwdrop⟩ := h
    simp +contextual [hphase, hcode, hdone, herr, hwdrop]
  | reset hreset =>
    have hfields := hreset
    obtain ⟨⟨-, -, hphase, hdone, herr, hwdrop, -⟩, -⟩ := hfields
    simp [hphase, hdone, herr, hwdrop, hreset]
  | drop hbusy hwrite h =>
    obtain ⟨hphase, hcode, hdone, herr, -⟩ := h
    simp +contextual [hphase, hcode, hdone, herr, hbusy, hwrite]
  | acceptance hwrite h =>
    obtain ⟨hphase, hcode, hdone, herr, hwdrop⟩ := h
    obtain ⟨w, rest, hin, hcmd⟩ := hwrite
    simp +contextual [hphase, hcode, hdone, herr, hwdrop, hin, hcmd]
  | completion hbusy hwdrop h =>
    obtain ⟨hphase, hdone, herr, -⟩ := h
    simp +contextual [hphase, hdone, herr, hwdrop, hbusy]

end Sys2Proof.Machine
end

section
/-! SUPPORT. The host port of 20_memory.md: which accesses get a bus error, what reads leave unchanged, and in which order
IN and OUT hold the bytes of a word (R65); then the order of the pending inputs (R76), and what a command leaves alone (R63). -/

namespace Sys2Proof.Machine

/-! ### Bus errors -/

theorem widthBytes_cases (w : Width) : widthBytes w = 1 ∨ widthBytes w = 2 ∨ widthBytes w = 4 := by
  cases w <;> decide

/-- The accesses that 20_memory.md R62, R66 and R67 refuse, whatever they would do: a reserved window, an offset of a RAM
window that is not implemented or not aligned, and an access of the register window that is no aligned 32-bit one. -/
def RefusedByMap (s : State) (w : Width) (addr : Addr) : Prop :=
  (0x1000 ≤ addr.toNat ∧ addr.toNat < 0x1000000) ∨ 0x3000000 ≤ addr.toNat ∨
  (0x1000000 ≤ addr.toNat ∧ addr.toNat < 0x2000000 ∧
    (s.inSize.toNat ≤ addr.toNat - 0x1000000 ∨ addr.toNat % widthBytes w ≠ 0)) ∨
  (0x2000000 ≤ addr.toNat ∧ addr.toNat < 0x3000000 ∧
    (s.outSize.toNat ≤ addr.toNat - 0x2000000 ∨ addr.toNat % widthBytes w ≠ 0)) ∨
  (addr.toNat < 0x1000 ∧ (w ≠ .w32 ∨ addr.toNat % 4 ≠ 0))

/-- The RAM windows start at multiples of every width, so an offset is aligned exactly when its address is. -/
theorem ramReachable_inv {w : Width} {addr base size : Nat} (hbase : base ≤ addr) (h4 : base % 4 = 0)
    (h : ramReachable w (addr - base) size) : addr - base < size ∧ addr % widthBytes w = 0 := by
  obtain ⟨halign, hfit⟩ := h
  rcases widthBytes_cases w with hw | hw | hw <;> rw [hw] at halign hfit ⊢ <;> omega

theorem target_of_refusedByMap {s : State} {w : Width} {addr : Addr} (h : RefusedByMap s w addr) :
    s.target w addr = .nothing := by
  unfold RefusedByMap at h
  rcases busTarget_cases w addr.toNat s.inSize.toNat s.outSize.toNat with
    ⟨hw, hlt, h4, -⟩ | ⟨hlo, hhi, hram, -⟩ | ⟨hlo, hhi, hram, -⟩ | ⟨hnothing, -⟩
  · simp only [hw, ne_eq, not_true_eq_false, false_or] at h
    omega
  · have hreach := ramReachable_inv hlo (by decide) hram
    omega
  · have hreach := ramReachable_inv hlo (by decide) hram
    omega
  · exact hnothing

/-- An access that reaches nothing gets a bus error, in either phase and in reset (20_memory.md R62). -/
theorem access_of_target_nothing {s : State} {w : Width} {addr : Addr} (h : s.target w addr = .nothing) (v : Word) :
    s.access (.read w addr) = s.answer .error ∧ s.access (.write w addr v) = s.answer .error := by
  cases hr : s.rstN with
  | false => exact ⟨access_in_reset hr _, access_in_reset hr _⟩
  | true => simp [State.access, hr, State.hostRead, State.hostWrite, h]

/-- An access of the OUT window reaches OUT or nothing. -/
theorem target_of_outWindow (s : State) (w : Width) {addr : Addr} (hlo : 0x2000000 ≤ addr.toNat)
    (hhi : addr.toNat < 0x3000000) : (∃ a, s.target w addr = .outRam a) ∨ s.target w addr = .nothing := by
  rcases busTarget_cases w addr.toNat s.inSize.toNat s.outSize.toNat with
    ⟨-, hlt, -⟩ | ⟨-, hlt, -⟩ | ⟨-, -, -, hout⟩ | ⟨hnothing, -⟩
  · omega
  · omega
  · exact .inl ⟨_, hout⟩
  · exact .inr hnothing

/-- The host cannot write OUT, in either phase (20_memory.md R68). -/
theorem access_writeOut (s : State) (w : Width) {addr : Addr} (hlo : 0x2000000 ≤ addr.toNat)
    (hhi : addr.toNat < 0x3000000) (v : Word) : s.access (.write w addr v) = s.answer .error := by
  cases hr : s.rstN with
  | false => exact access_in_reset hr _
  | true =>
    rcases target_of_outWindow s w hlo hhi with ⟨a, hout⟩ | hnothing
    · simp [State.access, hr, State.hostWrite, hout]
    · exact (access_of_target_nothing hnothing v).2

/-- Settles O16: a refused access reaches nothing, and a write of the OUT window is refused even where OUT is implemented. -/
theorem busErrorsChangeNothing : Obligations.BusErrorsChangeNothing := by
  intro s w addr v
  exact ⟨fun h => access_of_target_nothing (target_of_refusedByMap h) v,
    fun ⟨hlo, hhi⟩ => access_writeOut s w hlo hhi v⟩

/-! ### Reads -/

/-- A host read is an answer and nothing else, but for the draw of a free value (20_memory.md R66, R67). -/
theorem access_read_cases (s : State) (w : Width) (addr : Addr) :
    (∃ reply, s.access (.read w addr) = s.answer reply) ∨ s.access (.read w addr) = s.answerFree w := by
  rcases Bool.eq_false_or_eq_true s.rstN with hr | hr
  · have hread : s.access (.read w addr) = s.hostRead w addr := by simp [State.access, hr]
    rw [hread]
    exact (State.hostRead_cases s w addr).imp_right And.right
  · exact .inl ⟨_, access_in_reset hr _⟩

/-- Settles O17: an answer, with a free value or without, writes no other field. -/
theorem readsHaveNoSideEffects : Obligations.ReadsHaveNoSideEffects := by
  intro s w addr
  rcases access_read_cases s w addr with ⟨reply, h⟩ | h
  · rw [h]; rfl
  · rw [h]; rfl

/-! ### Byte order -/

/-- Byte `k` of a word stands at its bits 8k+7..8k (20_memory.md R65). -/
theorem getElem_bytesOfWord (v : Word) (n k : Nat) (h : k < (bytesOfWord v n).length) :
    (bytesOfWord v n)[k] = v.extractLsb' (8 * k) 8 := by
  induction n generalizing v k with
  | zero => simp [bytesOfWord] at h
  | succ n ih =>
    cases k with
    | zero => rfl
    | succ k =>
      simp only [bytesOfWord, List.getElem_cons_succ]
      rw [ih]
      ext i hi
      simp only [BitVec.getElem_extractLsb', BitVec.getLsbD_ushiftRight]
      congr 1
      omega

/-- Bit `i` of the word of some bytes is bit `i % 8` of byte `i / 8`, and 0 beyond the last byte (20_memory.md R65). -/
theorem getLsbD_wordOfBytes (bs : Str) {i : Nat} (hi : i < 32) :
    (wordOfBytes bs).getLsbD i = (bs.getD (i / 8) 0).getLsbD (i % 8) := by
  induction bs generalizing i with
  | nil => simp [wordOfBytes]
  | cons b bs ih =>
    rw [wordOfBytes, BitVec.getLsbD_or, BitVec.getLsbD_setWidth, BitVec.getLsbD_shiftLeft]
    by_cases hlow : i < 8
    · have hdiv : i / 8 = 0 := by omega
      have hmod : i % 8 = i := by omega
      simp [hlow, hi, hdiv, hmod]
    · have hdiv : i / 8 = (i - 8) / 8 + 1 := by omega
      have hmod : i % 8 = (i - 8) % 8 := by omega
      have hb : b.getLsbD i = false := BitVec.getLsbD_of_ge b i (by omega)
      rw [ih (by omega), hdiv, hmod, List.getD_cons_succ, hb]
      simp [hlow, hi]

theorem extractLsb'_wordOfBytes {bs : Str} {k : Nat} (hk : k < bs.length) (h4 : k < 4) :
    (wordOfBytes bs).extractLsb' (8 * k) 8 = bs[k] := by
  ext j hj
  have hdiv : (8 * k + j) / 8 = k := by omega
  have hmod : (8 * k + j) % 8 = j := by omega
  rw [BitVec.getElem_extractLsb', getLsbD_wordOfBytes bs (by omega), hdiv, hmod, List.getD_eq_getElem _ _ hk,
    BitVec.getLsbD_eq_getElem hj]

theorem wordOfBytes_toNat_lt (bs : Str) : (wordOfBytes bs).toNat < 2 ^ (8 * bs.length) := by
  refine Nat.lt_pow_two_of_testBit _ fun i hi => ?_
  rw [BitVec.testBit_toNat]
  by_cases h32 : i < 32
  · have hbeyond : bs.length ≤ i / 8 := by omega
    rw [getLsbD_wordOfBytes bs h32, List.getD_eq_default _ _ hbeyond]
    simp
  · exact BitVec.getLsbD_of_ge _ i (by omega)

/-- The word of the bytes of a RAM access: byte `k` at bits 8k+7..8k, and nothing above (20_memory.md R65). -/
theorem wordOfBytes_readBytes (m : Memory) (a : Nat) (w : Width) :
    (∀ k, k < widthBytes w →
      (wordOfBytes (m.readBytes a (widthBytes w))).extractLsb' (8 * k) 8 = m.read (a + k)) ∧
    (wordOfBytes (m.readBytes a (widthBytes w))).toNat < 2 ^ (8 * widthBytes w) := by
  refine ⟨fun k hk => ?_, by simpa using wordOfBytes_toNat_lt (m.readBytes a (widthBytes w))⟩
  have h4 : k < 4 := by rcases widthBytes_cases w with hw | hw | hw <;> omega
  rw [extractLsb'_wordOfBytes (by simpa using hk) h4, Memory.getElem_readBytes]

/-- Settles O20, by what a RAM reads after bytes were written to it. -/
theorem inWriteStoresLittleEndian : Obligations.InWriteStoresLittleEndian := by
  intro s w a v hr hidle ha
  have hwrite := access_writeIn hr ha v
  rw [busy_of_idle hidle, if_neg Bool.false_ne_true] at hwrite
  dsimp only
  rw [hwrite]
  refine ⟨fun k hk => ?_, fun b hb => ?_, rfl⟩
  · have hin : a ≤ a + k ∧ a + k < a + (bytesOfWord v (widthBytes w)).length := by
      rw [length_bytesOfWord]; omega
    simp only [State.inByte, State.answer_inRam]
    rw [Memory.read_writeBytes, dif_pos hin, getElem_bytesOfWord, Nat.add_sub_cancel_left]
  · have hout : ¬(a ≤ b ∧ b < a + (bytesOfWord v (widthBytes w)).length) := by
      rw [length_bytesOfWord]; omega
    simp only [State.inByte, State.answer_inRam]
    rw [Memory.read_writeBytes, dif_neg hout]

/-- Settles O21: both windows answer the word of the bytes that were read. -/
theorem ramReadsAreLittleEndian : Obligations.RamReadsAreLittleEndian := by
  intro s w a hr
  refine ⟨fun ha => ?_, fun ha hidle => ?_⟩
  · rw [access_readIn hr ha]
    exact ⟨_, rfl, wordOfBytes_readBytes s.inRam a w⟩
  · rw [access_readOut hr ha, busy_of_idle hidle, if_neg Bool.false_ne_true]
    exact ⟨_, rfl, wordOfBytes_readBytes s.outRam a w⟩

/-! ### The order of the inputs, and the frame of a command -/

theorem step_of_host {s : State} {x : Access} {rest : List Event} (h : s.inputs = .host x :: rest) :
    step s = .next (({ s with inputs := rest } : State).access x) := by
  simp [step, h]

theorem step_of_resetPin {s : State} {level : Bool} {rest : List Event} (h : s.inputs = .resetPin level :: rest) :
    step s = .next (({ s with inputs := rest } : State).driveReset level) := by
  simp [step, h]

/-- The sequencer has its turn when the schedule says so, and when nothing is pending. -/
theorem step_of_sequencer {s : State} {rest : List Event}
    (h : s.inputs = .sequencer :: rest ∨ s.inputs = [] ∧ rest = []) :
    step s = sequencerTurn { s with inputs := rest } := by
  rcases h with h | ⟨h, rfl⟩
  · simp [step, h]
  · have hsame : ({ s with inputs := [] } : State) = s := by rw [← h]
    simp [step, h, hsame]

/-- The sequencer does nothing while no command is pending, or in reset (60_exceptions.md R302). -/
theorem sequencerTurn_of_idle_or_reset {s : State} (h : s.phase = .idle ∨ s.rstN = false) :
    sequencerTurn s = .next s := by
  rcases sequencerTurn_cases s with ⟨-, hturn⟩ | ⟨hbusy, hr, -⟩ | ⟨hbusy, hr, -⟩
  · exact hturn
  all_goals
    rw [busy_iff] at hbusy
    simp [hbusy, hr] at h

/-- Settles O6, by the kinds of input that can be next. -/
theorem inputsHappenInOrder : Obligations.InputsHappenInOrder := by
  intro s rest
  refine ⟨fun _ => step_of_host, fun _ => step_of_resetPin, fun hquiet hturn => ?_⟩
  rw [step_of_sequencer hturn]
  exact sequencerTurn_of_idle_or_reset hquiet

/-- Settles O37: every command is a completion step, which writes no input. -/
theorem commandsLeaveInputsAlone : Obligations.CommandsLeaveInputsAlone := by
  intro i s t h
  obtain ⟨keepsOut, r, hx⟩ := exec_eq_complete i s
  obtain rfl := Host.Outcome.next.inj (hx.symm.trans h)
  exact State.complete_sameInputs s keepsOut r

end Sys2Proof.Machine
end

section
/-! SUPPORT. The decoder and the encoder of command words (30_encoding.md R90 to R95). A word is its fields RSV and OP and
nothing else, so decoding is settled on OP once RSV is 0. -/

namespace Sys2Proof

/-! ### The fields of a command word -/

theorem cmdRsv_encode (i : Instr) : cmdRsv (encode i) = 0 := BitVec.extractLsb'_append_eq_left

theorem cmdOp_encode (i : Instr) : cmdOp (encode i) = opcode i := BitVec.extractLsb'_append_eq_right

/-- RSV and OP are all 32 bits of the word (30_encoding.md R90). -/
theorem cmdRsv_append_cmdOp (w : Word) : cmdRsv w ++ cmdOp w = w :=
  calc w.extractLsb' (0 + 8) 24 ++ w.extractLsb' 0 8 = w.extractLsb' 0 (24 + 8) :=
        BitVec.extractLsb'_append_extractLsb'_eq_extractLsb' rfl
    _ = w := BitVec.extractLsb'_eq_self

theorem eq_encode_iff (i : Instr) (w : Word) : w = encode i ↔ cmdRsv w = 0 ∧ cmdOp w = opcode i := by
  constructor
  · rintro rfl
    exact ⟨cmdRsv_encode i, cmdOp_encode i⟩
  · rintro ⟨hrsv, hop⟩
    rw [← cmdRsv_append_cmdOp w, hrsv, hop, encode]

/-! ### The opcode case of the decode function (30_encoding.md R95) -/

theorem decodeOp_opcode (i : Instr) : decodeOp (opcode i) = .command i := by cases i <;> rfl

/-- Below 8 an opcode is that of some command, and from 8 up it is reserved (30_encoding.md R93, R94). -/
theorem decodeOp_cases (op : Byte) :
    (∃ i, op = opcode i) ∨ (8 ≤ op.toNat ∧ decodeOp op = .illegal .reservedOpcode) := by
  unfold decodeOp
  split
  case h_1 h => exact .inl ⟨.nop, BitVec.eq_of_toNat_eq h⟩
  case h_2 h => exact .inl ⟨.encode, BitVec.eq_of_toNat_eq h⟩
  case h_3 h => exact .inl ⟨.pack, BitVec.eq_of_toNat_eq h⟩
  case h_4 h => exact .inl ⟨.compress, BitVec.eq_of_toNat_eq h⟩
  case h_5 h => exact .inl ⟨.frameB64, BitVec.eq_of_toNat_eq h⟩
  case h_6 h => exact .inl ⟨.frameZ64, BitVec.eq_of_toNat_eq h⟩
  case h_7 h => exact .inl ⟨.base64, BitVec.eq_of_toNat_eq h⟩
  case h_8 h => exact .inl ⟨.crc16, BitVec.eq_of_toNat_eq h⟩
  case h_9 h0 h1 h2 h3 h4 h5 h6 h7 =>
    simp only [imp_false] at h0 h1 h2 h3 h4 h5 h6 h7
    exact .inr ⟨by omega, rfl⟩

theorem decodeOp_eq_command_iff (op : Byte) (i : Instr) : decodeOp op = .command i ↔ op = opcode i := by
  constructor
  · intro h
    rcases decodeOp_cases op with ⟨j, rfl⟩ | ⟨-, hill⟩
    · rw [decodeOp_opcode] at h
      rw [Decoded.command.inj h]
    · exact Decoded.noConfusion (hill.symm.trans h)
  · rintro rfl
    exact decodeOp_opcode i

theorem opcode_toNat_lt (i : Instr) : (opcode i).toNat < 8 := by cases i <;> decide

theorem decodeOp_of_reserved {op : Byte} (h : 8 ≤ op.toNat) : decodeOp op = .illegal .reservedOpcode := by
  rcases decodeOp_cases op with ⟨i, rfl⟩ | ⟨-, hill⟩
  · exact absurd (opcode_toNat_lt i) (Nat.not_lt.2 h)
  · exact hill

/-! ### The decode function (30_encoding.md R95) -/

theorem decode_of_rsv_ne_zero {w : Word} (h : cmdRsv w ≠ 0) : decode w = .illegal .reservedBits := if_pos h

theorem decode_of_rsv_zero {w : Word} (h : cmdRsv w = 0) : decode w = decodeOp (cmdOp w) := if_neg (not_not.2 h)

theorem decode_eq_command_iff (w : Word) (i : Instr) :
    decode w = .command i ↔ cmdRsv w = 0 ∧ cmdOp w = opcode i := by
  by_cases h : cmdRsv w = 0
  · rw [decode_of_rsv_zero h, decodeOp_eq_command_iff, and_iff_right h]
  · rw [decode_of_rsv_ne_zero h]
    exact iff_of_false Decoded.noConfusion fun ⟨hrsv, _⟩ => h hrsv

theorem decode_of_reserved_opcode {w : Word} (hrsv : cmdRsv w = 0) (hop : 8 ≤ (cmdOp w).toNat) :
    decode w = .illegal .reservedOpcode :=
  (decode_of_rsv_zero hrsv).trans (decodeOp_of_reserved hop)

theorem decode_encode (i : Instr) : decode (encode i) = .command i :=
  (decode_eq_command_iff _ i).2 ((eq_encode_iff i _).1 rfl)

/-- Settles O2: both sides say that RSV is 0 and OP is the command's opcode. -/
theorem decodeAndEncodeAgree : Obligations.DecodeAndEncodeAgree := fun i w _ =>
  (decode_eq_command_iff w i).trans (eq_encode_iff i w).symm

/-- Settles O1, case by case of the decode function. -/
theorem decodeFollowsOpcodeTable : Obligations.DecodeFollowsOpcodeTable := by
  intro w
  refine ⟨fun hrsv => ⟨_, decode_of_rsv_ne_zero hrsv⟩, fun hrsv => ?_⟩
  have hdecode (i : Instr) (hop : cmdOp w = opcode i) : decode w = .command i :=
    (decode_eq_command_iff w i).2 ⟨hrsv, hop⟩
  exact ⟨hdecode .nop, hdecode .encode, hdecode .pack, hdecode .compress, hdecode .frameB64, hdecode .frameZ64,
    hdecode .base64, hdecode .crc16, fun hop => ⟨_, decode_of_reserved_opcode hrsv hop⟩⟩

/-- Settles O3: six of the words are encodings, and the others break RSV or OP. -/
theorem sampleWordsDecode : Obligations.SampleWordsDecode :=
  ⟨decode_encode .nop, decode_encode .encode, decode_encode .pack, decode_encode .compress, decode_encode .frameB64,
    decode_encode .crc16, decode_of_rsv_ne_zero (by decide), decode_of_reserved_opcode (by decide) (by decide),
    decode_of_rsv_ne_zero (by decide)⟩

end Sys2Proof
end

section
/-! SUPPORT. Which result registers each command can write (30_encoding.md R92). Each command's result is checked once
against the effects the command may have, and each register is kept by every effect but its own. -/

namespace Sys2Proof.Machine

/-! ### The effects a result stays within -/

/-- A result whose completion has only effects that `may` allows; an error's completion writes OUT_LEN <- 0
(60_exceptions.md R290). -/
def CmdResult.Within (may : Effect → Prop) : CmdResult → Prop
  | .ok es => ∀ e ∈ es, may e
  | .error _ _ => may (.outLen 0)
  | .waiting _ => True

theorem withPixelRegion_within {may : Effect → Prop} {s : State} {k : CmdResult} (herror : may (.outLen 0))
    (hk : k.Within may) : (withPixelRegion s k).Within may := by
  rcases Nat.lt_or_ge s.inSize.toNat s.pixelBytes with h | h
  · rwa [withPixelRegion_absent h]
  · rwa [withPixelRegion_fits h]

theorem withInput_within {may : Effect → Prop} {s : State} {k : Str → CmdResult} (herror : may (.outLen 0))
    (hk : ∀ t, (k t).Within may) : (withInput s k).Within may := by
  rcases Nat.lt_or_ge s.inSize.toNat s.inLen.toNat with h | h
  · rwa [withInput_absent h]
  · rw [withInput_fits h]
    exact hk _

theorem emitOut_within {may : Effect → Prop} {s : State} {p : Str} {more : List Effect} (hout : ∀ t, may (.out t))
    (hlen : ∀ n, may (.outLen n)) (hmore : ∀ e ∈ more, may e) : (emitOut s p more).Within may := by
  rcases Nat.lt_or_ge s.outSize.toNat p.length with h | h
  · rw [emitOut_overflows h]
    exact hlen 0
  · rw [emitOut_fits h]
    simp only [CmdResult.Within, List.cons_append, List.nil_append, List.forall_mem_cons]
    exact ⟨hout p, hlen _, hmore⟩

theorem frameResult_within {may : Effect → Prop} {s : State} {z : Bool} {raw : Str} {more : List Effect}
    (hout : ∀ t, may (.out t)) (hlen : ∀ n, may (.outLen n)) (hcrc : ∀ c, may (.crc c))
    (hmore : ∀ e ∈ more, may e) : (frameResult s z raw more).Within may := by
  unfold frameResult
  split
  · exact emitOut_within hout hlen (List.forall_mem_append.2 ⟨hmore, List.forall_mem_singleton.2 (hcrc _)⟩)
  · exact hlen 0
  · trivial

/-! ### The effects of each command -/

/-- The writes column of 30_encoding.md R92, as the effects a command may have in a state. -/
def MayWrite (i : Instr) (s : State) : Effect → Prop
  | .out _ => i ≠ .nop ∧ i ≠ .crc16
  | .outLen _ => i ≠ .nop
  | .bytesPerRow _ => i = .pack ∨ i = .encode ∨ i = .compress
  | .totalBytes _ => i = .pack ∨ i = .encode ∨ i = .compress
  | .crc _ => i = .frameB64 ∨ i = .frameZ64 ∨ i = .crc16 ∨ i = .encode ∧ (s.enc = .base64 ∨ s.enc = .base64Deflate)

/-- The commands whose completion never places a string in OUT or scrambles it (40_command_protocol.md R114, R118). -/
def leavesOut : Instr → Bool
  | .nop | .crc16 => true
  | .encode | .pack | .compress | .frameB64 | .frameZ64 | .base64 => false

theorem packResult_within (s : State) : (packResult s).Within (MayWrite .pack s) :=
  withPixelRegion_within (by simp [MayWrite])
    (emitOut_within (by simp [MayWrite]) (by simp [MayWrite]) (by simp [MayWrite]))

theorem compressResult_within (s : State) : (compressResult s).Within (MayWrite .compress s) := by
  refine withInput_within (by simp [MayWrite]) fun t => ?_
  dsimp only
  split
  · simp [CmdResult.Within, MayWrite]
  · split
    · simp [CmdResult.Within, MayWrite]
    · exact emitOut_within (by simp [MayWrite]) (by simp [MayWrite]) (by simp [MayWrite])

theorem base64Result_within (s : State) : (base64Result s).Within (MayWrite .base64 s) :=
  withInput_within (by simp [MayWrite]) fun _ =>
    emitOut_within (by simp [MayWrite]) (by simp [MayWrite]) (by simp)

theorem crc16Result_within (s : State) : (crc16Result s).Within (MayWrite .crc16 s) :=
  withInput_within (by simp [MayWrite]) fun _ => by simp [CmdResult.Within, MayWrite]

theorem frameCommandResult_within {may : Effect → Prop} (s : State) (z : Bool) (hout : ∀ t, may (.out t))
    (hlen : ∀ n, may (.outLen n)) (hcrc : ∀ c, may (.crc c)) : (frameCommandResult s z).Within may := by
  refine withInput_within (hlen 0) fun t => ?_
  split
  · exact hlen 0
  · exact frameResult_within hout hlen hcrc (by simp)

theorem sizeEffects_mayWrite (s : State) : ∀ e ∈ sizeEffects s, MayWrite .encode s e := by simp [sizeEffects, MayWrite]

/-- ENCODE writes CRC only where it frames, which is ENC = 1 or 2 (46_encode_pipeline.md R260). -/
theorem encodeResult_within (s : State) : (encodeResult s).Within (MayWrite .encode s) := by
  have hout (t : Str) : MayWrite .encode s (.out t) := by simp [MayWrite]
  have hlen (n : Nat) : MayWrite .encode s (.outLen n) := by simp [MayWrite]
  unfold encodeResult
  split
  case h_1 => exact hlen 0
  case h_2 =>
    refine withPixelRegion_within (hlen 0) ?_
    unfold encodeHex
    split
    · exact hlen 0
    · exact emitOut_within hout hlen (sizeEffects_mayWrite s)
  case h_3 henc =>
    exact withPixelRegion_within (hlen 0)
      (frameResult_within hout hlen (by simp [MayWrite, henc]) (sizeEffects_mayWrite s))
  case h_4 henc =>
    exact withPixelRegion_within (hlen 0)
      (frameResult_within hout hlen (by simp [MayWrite, henc]) (sizeEffects_mayWrite s))

/-- Every command answers the completion of a result within the writes column. -/
theorem exec_eq_complete_within (i : Instr) (s : State) :
    ∃ r, r.Within (MayWrite i s) ∧ exec i s = .next (s.complete (leavesOut i) r) := by
  cases i with
  | nop => exact ⟨.ok [], by simp [CmdResult.Within], rfl⟩
  | encode => exact ⟨_, encodeResult_within s, rfl⟩
  | pack => exact ⟨_, packResult_within s, rfl⟩
  | compress => exact ⟨_, compressResult_within s, rfl⟩
  | frameB64 =>
    exact ⟨_, frameCommandResult_within s false (by simp [MayWrite]) (by simp [MayWrite]) (by simp [MayWrite]), rfl⟩
  | frameZ64 =>
    exact ⟨_, frameCommandResult_within s true (by simp [MayWrite]) (by simp [MayWrite]) (by simp [MayWrite]), rfl⟩
  | base64 => exact ⟨_, base64Result_within s, rfl⟩
  | crc16 => exact ⟨_, crc16Result_within s, rfl⟩

/-! ### What a completion keeps -/

theorem applyAll_keeps {α : Type} {f : State → α} {may : Effect → Prop}
    (happly : ∀ e, may e → ∀ u : State, f (u.apply e) = f u) {es : List Effect} (hes : ∀ e ∈ es, may e) (s : State) :
    f (s.applyAll es) = f s := by
  induction es generalizing s with
  | nil => rfl
  | cons e es ih =>
    obtain ⟨he, htail⟩ := List.forall_mem_cons.1 hes
    exact (ih htail (s.apply e)).trans (happly e he s)

/-- A field that no allowed effect writes, and that neither the end of a completion, an error nor a wait writes, is kept. -/
theorem complete_keeps {α : Type} {f : State → α} {may : Effect → Prop} {s : State} {keepsOut : Bool} {r : CmdResult}
    (hr : r.Within may) (happly : ∀ e, may e → ∀ u : State, f (u.apply e) = f u)
    (hfinish : ∀ u : State, f (u.finish .ok 0) = f u)
    (herror : may (.outLen 0) → ∀ code info, f (s.errorCompletion keepsOut code info) = f s)
    (hwait : ∀ raw, f { s with deflateReq := some raw } = f s) : f (s.complete keepsOut r) = f s := by
  cases r with
  | ok es => exact (hfinish _).trans (applyAll_keeps happly hr s)
  | error code info => exact herror hr code info
  | waiting raw => exact hwait raw

section

variable {i : Instr} {s : State} {r : CmdResult}

theorem complete_keeps_sizes (hr : r.Within (MayWrite i s)) (hi : ¬(i = .pack ∨ i = .encode ∨ i = .compress))
    (keepsOut : Bool) : (s.complete keepsOut r).bytesPerRow = s.bytesPerRow ∧
      (s.complete keepsOut r).totalBytes = s.totalBytes := by
  refine Prod.mk.inj (complete_keeps (f := fun u => (u.bytesPerRow, u.totalBytes)) hr (fun e he u => ?_)
    (fun _ => rfl) (fun _ _ _ => rfl) fun _ => rfl)
  cases e with
  | bytesPerRow n | totalBytes n => exact absurd he hi
  | out | outLen | crc => rfl

theorem complete_keeps_crc (hr : r.Within (MayWrite i s)) (hi : ∀ c, ¬MayWrite i s (.crc c)) (keepsOut : Bool) :
    (s.complete keepsOut r).crc = s.crc := by
  refine complete_keeps hr (fun e he u => ?_) (fun _ => rfl) (fun _ _ _ => rfl) fun _ => rfl
  cases e with
  | crc c => exact absurd he (hi c)
  | out | outLen | bytesPerRow | totalBytes => rfl

/-- OUT_LEN is written by an effect or by an error, and NOP has neither (40_command_protocol.md R118). -/
theorem complete_keeps_outLen (hr : r.Within (MayWrite .nop s)) (keepsOut : Bool) :
    (s.complete keepsOut r).outLen = s.outLen := by
  refine complete_keeps hr (fun e he u => ?_) (fun _ => rfl) (fun he => absurd rfl he) fun _ => rfl
  cases e with
  | outLen n => exact absurd rfl he
  | out | bytesPerRow | totalBytes | crc => rfl

theorem complete_keeps_out (hr : r.Within (MayWrite i s)) (hi : i = .nop ∨ i = .crc16) :
    SameOut s (s.complete true r) := by
  have hram : (s.complete true r).outRam = s.outRam := by
    refine complete_keeps hr (fun e he u => ?_) (fun _ => rfl) (fun _ _ _ => rfl) fun _ => rfl
    cases e with
    | out t =>
      obtain ⟨hnop, hcrc⟩ := he
      exact (hi.elim hnop hcrc).elim
    | outLen | bytesPerRow | totalBytes | crc => rfl
  intro a
  simp [State.outByte, hram]

theorem leavesOut_of_nop_or_crc16 (h : i = .nop ∨ i = .crc16) : leavesOut i = true := by
  rcases h with rfl | rfl <;> rfl

end

/-- Settles O40: a completion keeps each result register that the command's effects do not write. -/
theorem commandsWriteOnlyTheirResults : Obligations.CommandsWriteOnlyTheirResults := by
  intro i s t h
  obtain ⟨r, hr, hx⟩ := exec_eq_complete_within i s
  obtain rfl := Host.Outcome.next.inj (hx.symm.trans h)
  refine ⟨fun hne => ?_, fun hne => ?_, ?_, fun hi => ?_⟩
  · by_contra hi
    obtain ⟨hbpr, htotal⟩ := complete_keeps_sizes hr hi (leavesOut i)
    exact hne.elim (absurd hbpr) (absurd htotal)
  · by_contra hi
    exact hne (complete_keeps_crc hr (fun _ => hi) (leavesOut i))
  · rintro hne rfl
    exact hne (complete_keeps_outLen hr _)
  · rw [leavesOut_of_nop_or_crc16 hi]
    exact complete_keeps_out hr hi

end Sys2Proof.Machine
end

section
/-! SUPPORT. The command protocol (40_command_protocol.md): acceptance, the turn that runs the accepted command, how a
command completes, and when it waits. A result that waits comes from the one request to the engine in `frameResult`;
nothing around that request can make a result wait. -/

namespace Sys2Proof.Machine

/-! ### Results that wait for the engine (93_implementation_defined.md I16) -/

theorem emitOut_ne_waiting (s : State) (p : Str) (more : List Effect) (raw : Str) : emitOut s p more ≠ .waiting raw := by
  rcases Nat.lt_or_ge s.outSize.toNat p.length with h | h
  · rw [emitOut_overflows h]; exact CmdResult.noConfusion
  · rw [emitOut_fits h]; exact CmdResult.noConfusion

theorem withPixelRegion_waiting {s : State} {k : CmdResult} {raw : Str} (h : withPixelRegion s k = .waiting raw) :
    k = .waiting raw := by
  rcases Nat.lt_or_ge s.inSize.toNat s.pixelBytes with hsize | hsize
  · rw [withPixelRegion_absent hsize] at h; cases h
  · rwa [withPixelRegion_fits hsize] at h

theorem withInput_waiting {s : State} {k : Str → CmdResult} {raw : Str} (h : withInput s k = .waiting raw) :
    ∃ t, k t = .waiting raw := by
  rcases Nat.lt_or_ge s.inSize.toNat s.inLen.toNat with hsize | hsize
  · rw [withInput_absent hsize] at h; cases h
  · rw [withInput_fits hsize] at h; exact ⟨_, h⟩

/-- A frame waits only for the bytes it asked the engine to compress (44_binary_framer.md R210, R211). -/
theorem frameResult_waiting {s : State} {z : Bool} {asked raw : Str} {more : List Effect}
    (h : frameResult s z asked more = .waiting raw) : z = true ∧ s.deflateCall raw = .noAnswer := by
  unfold frameResult at h
  split at h
  case h_1 => exact absurd h (emitOut_ne_waiting _ _ _ _)
  case h_2 => cases h
  case h_3 hanswer =>
    obtain rfl := CmdResult.waiting.inj h
    cases z with
    | false => cases hanswer
    | true => exact ⟨rfl, hanswer⟩

theorem packResult_ne_waiting (s : State) (raw : Str) : packResult s ≠ .waiting raw := fun h =>
  emitOut_ne_waiting _ _ _ _ (withPixelRegion_waiting h)

theorem compressResult_ne_waiting (s : State) (raw : Str) : compressResult s ≠ .waiting raw := by
  intro h
  obtain ⟨t, ht⟩ := withInput_waiting h
  dsimp only at ht
  split at ht
  · cases ht
  · split at ht
    · cases ht
    · exact emitOut_ne_waiting _ _ _ _ ht

theorem base64Result_ne_waiting (s : State) (raw : Str) : base64Result s ≠ .waiting raw := by
  intro h
  obtain ⟨t, ht⟩ := withInput_waiting h
  exact emitOut_ne_waiting _ _ _ _ ht

theorem crc16Result_ne_waiting (s : State) (raw : Str) : crc16Result s ≠ .waiting raw := by
  intro h
  obtain ⟨t, ht⟩ := withInput_waiting h
  cases ht

theorem frameCommandResult_waiting {s : State} {z : Bool} {raw : Str} (h : frameCommandResult s z = .waiting raw) :
    z = true ∧ s.deflateCall raw = .noAnswer := by
  obtain ⟨t, ht⟩ := withInput_waiting h
  split at ht
  · cases ht
  · exact frameResult_waiting ht

theorem encodeHex_ne_waiting (s : State) (raw : Str) : encodeHex s ≠ .waiting raw := by
  unfold encodeHex
  split
  · exact CmdResult.noConfusion
  · exact emitOut_ne_waiting _ _ _ _

/-- Of the four encoding kinds only ENC = 2 asks the engine (46_encode_pipeline.md R260). -/
theorem encodeResult_waiting {s : State} {raw : Str} (h : encodeResult s = .waiting raw) :
    s.enc = .base64Deflate ∧ s.deflateCall raw = .noAnswer := by
  unfold encodeResult at h
  split at h
  case h_1 => cases h
  case h_2 => exact absurd (withPixelRegion_waiting h) (encodeHex_ne_waiting s raw)
  case h_3 => cases (frameResult_waiting (withPixelRegion_waiting h)).1
  case h_4 henc => exact ⟨henc, (frameResult_waiting (withPixelRegion_waiting h)).2⟩

/-- The command `i` has asked the engine for `raw` and the engine does not answer. -/
def WaitsFor (i : Instr) (s : State) (raw : Str) : Prop :=
  s.deflateCall raw = .noAnswer ∧ (i = .frameZ64 ∨ i = .encode ∧ s.enc = .base64Deflate)

/-- Every command answers the completion of a result that waits only for a silent engine. -/
theorem exec_eq_complete_waitsFor (i : Instr) (s : State) :
    ∃ k r, exec i s = .next (s.complete k r) ∧ ∀ raw, r = .waiting raw → WaitsFor i s raw := by
  cases i with
  | nop => exact ⟨true, .ok [], rfl, fun _ h => CmdResult.noConfusion h⟩
  | pack => exact ⟨false, _, rfl, fun raw h => absurd h (packResult_ne_waiting s raw)⟩
  | compress => exact ⟨false, _, rfl, fun raw h => absurd h (compressResult_ne_waiting s raw)⟩
  | base64 => exact ⟨false, _, rfl, fun raw h => absurd h (base64Result_ne_waiting s raw)⟩
  | crc16 => exact ⟨true, _, rfl, fun raw h => absurd h (crc16Result_ne_waiting s raw)⟩
  | frameB64 => exact ⟨false, _, rfl, fun raw h => Bool.noConfusion (frameCommandResult_waiting h).1⟩
  | frameZ64 => exact ⟨false, _, rfl, fun raw h => ⟨(frameCommandResult_waiting h).2, .inl rfl⟩⟩
  | encode =>
    refine ⟨false, _, rfl, fun raw h => ?_⟩
    obtain ⟨henc, hsilent⟩ := encodeResult_waiting h
    exact ⟨hsilent, .inr ⟨rfl, henc⟩⟩

/-- Settles O8, by what the command's `exec` returned: effects and errors complete, and a wait is for a silent engine. -/
theorem commandCompletesUnlessEngineSilent : Obligations.CommandCompletesUnlessEngineSilent := by
  intro i s t h
  obtain ⟨k, r, hexec, hwait⟩ := exec_eq_complete_waitsFor i s
  obtain rfl := Host.Outcome.next.inj (hexec.symm.trans h)
  cases r with
  | ok effects => exact .inl (State.complete_ok_completed s k effects).self_codes
  | error code info => exact .inl (State.complete_error_failedWith s k code info).1.self_codes
  | waiting raw =>
    obtain ⟨hsilent, hasks⟩ := hwait raw rfl
    exact .inr ⟨raw, hsilent, rfl, hasks⟩

/-! ### The turn that runs the accepted command -/

theorem sequencerTurn_of_command {s : State} {i : Instr} (hbusy : s.phase = .busy) (hr : s.rstN = true)
    (hcmd : decode s.cmd = .command i) : sequencerTurn s = exec i s := by
  simp [sequencerTurn, busy_of_busy hbusy, hr, hcmd]

/-- Settles O4: the step is the sequencer's turn, and taking it off the schedule leaves the pending command as it was. -/
theorem stepRunsDecodedCommand : Obligations.StepRunsDecodedCommand := by
  intro s i rest _ hbusy hr hcmd hturn
  rw [step_of_sequencer hturn]
  exact sequencerTurn_of_command hbusy hr hcmd

/-! ### CMD writes and the other host accesses -/

/-- A CMD write while BUSY only sets WDROP (40_command_protocol.md R111). -/
theorem access_writeCmd_busy {s : State} (hbusy : s.phase = .busy) (hr : s.rstN = true) (w : Word) :
    s.access (.write .w32 0x08 w) = { s with wdrop := true, reply := .done } :=
  access_write_dropped hbusy hr (r := .cmd) (by decide) rfl w

/-- A CMD write while idle is accepted, whatever the word (40_command_protocol.md R111). -/
theorem access_writeCmd_idle {s : State} (hidle : s.phase = .idle) (hr : s.rstN = true) (w : Word) :
    s.access (.write .w32 0x08 w) = { s with cmd := w, phase := .busy, done := false, reply := .done } :=
  access_write_idle hr hidle (r := .cmd) (by decide) w

/-- Settles O9, phase by phase. -/
theorem commandAcceptance : Obligations.CommandAcceptance := fun _ w hr =>
  ⟨fun hbusy => access_writeCmd_busy hbusy hr w, fun hidle => access_writeCmd_idle hidle hr w⟩

/-- Settles O11: it is the frame of a host access while BUSY. -/
theorem busyAccessChangesNoResult : Obligations.BusyAccessChangesNoResult := fun _ _ hbusy hx =>
  access_busy_changesPortOnly hbusy hx

/-! ### NOP -/

/-- Settles O26: NOP is a completion without effects, which writes STATUS and ERR_INFO alone. -/
theorem nopOnlyCompletes : Obligations.NopOnlyCompletes := by
  refine ⟨rfl, fun s => ?_, fun s hbusy hr => access_writeCmd_busy hbusy hr _⟩
  exact ⟨s.complete true (.ok []), rfl, State.complete_ok_completed s true [], rfl, rfl, rfl, rfl, fun _ => rfl,
    State.complete_sameInputs s true _⟩

end Sys2Proof.Machine
end

section
/-! SUPPORT. The bi-level comparator U1 (41_bilevel_reducer.md) and the raster of U2 that its decisions fill
(42_row_packer.md): where each row byte stands in the packed bytes, what converting the hex text to bytes gives back,
and that the hex text passes the check of COMPRESS. -/

namespace Sys2Proof.Machine

/-! ### The threshold comparison (41_bilevel_reducer.md) -/

theorem isBlack_iff (t r g b : Byte) : isBlack t r g b = true ↔ luminance r g b < t.toNat := decide_eq_true_iff

theorem isBlack_eq_false_iff (t r g b : Byte) : isBlack t r g b = false ↔ t.toNat ≤ luminance r g b :=
  decide_eq_false_iff_not.trans Nat.not_lt

/-- Only pure white has the greatest luminance (41_bilevel_reducer.md R134). -/
theorem luminance_ge_255_iff (r g b : Byte) : 255 ≤ luminance r g b ↔ r = 255 ∧ g = 255 ∧ b = 255 := by
  have := r.isLt
  have := g.isLt
  have := b.isLt
  simp only [luminance, ← BitVec.toNat_inj, BitVec.reduceToNat]
  omega

theorem luminance_lt_128_iff (r g b : Byte) : luminance r g b < 128 ↔ r.toNat + g.toNat + b.toNat ≤ 383 := by
  unfold luminance
  omega

theorem luminance_swap_red_green (r g b : Byte) : luminance r g b = luminance g r b := by
  simp only [luminance, Nat.add_comm]

theorem luminance_swap_green_blue (r g b : Byte) : luminance r g b = luminance r b g := by
  simp only [luminance, Nat.add_right_comm]

/-- Settles O41: the comparison, on the three channel bytes of the pixel. -/
theorem pixelIsBlackBelowThreshold : Obligations.PixelIsBlackBelowThreshold := fun s x y =>
  isBlack_iff s.threshold (s.red x y) (s.green x y) (s.blue x y)

/-- Settles O42: each corner case is a fact about the luminance. -/
theorem thresholdCornerCases : Obligations.ThresholdCornerCases := by
  intro t r g b
  refine ⟨?zero, ?white, ?middle, ⟨?redGreen, ?greenBlue⟩, ?equal⟩
  case zero => exact (isBlack_eq_false_iff 0 r g b).2 (Nat.zero_le _)
  case white => exact (isBlack_eq_false_iff 255 r g b).trans (luminance_ge_255_iff r g b)
  case middle => exact (isBlack_iff 128 r g b).trans (luminance_lt_128_iff r g b)
  case redGreen => rw [isBlack, luminance_swap_red_green, ← isBlack]
  case greenBlue => rw [isBlack, luminance_swap_green_blue, ← isBlack]
  case equal => exact fun hlum => (isBlack_eq_false_iff t r g b).2 hlum.ge

/-! ### The rows of the raster (42_row_packer.md R142, R147) -/

theorem rowBytesFrom_eq_map (w : Nat) (row : Nat → Bool) (j n : Nat) :
    rowBytesFrom w row j n = (List.range' j n).map (rowByte w row) := by
  induction n generalizing j with
  | zero => rfl
  | succ n ih => rw [rowBytesFrom, ih, List.range'_succ, List.map_cons]

theorem rowBytes_eq_map (w : Nat) (row : Nat → Bool) : rowBytes w row = (List.range (bpr w)).map (rowByte w row) := by
  rw [rowBytes, rowBytesFrom_eq_map, List.range_eq_range']

@[simp] theorem length_rowBytes (w : Nat) (row : Nat → Bool) : (rowBytes w row).length = bpr w := by
  simp [rowBytes_eq_map]

theorem getElem?_rowBytes {w j : Nat} (row : Nat → Bool) (hj : j < bpr w) :
    (rowBytes w row)[j]? = some (rowByte w row j) := by
  simp [rowBytes_eq_map, hj]

@[simp] theorem length_packedFrom (w : Nat) (black : Nat → Nat → Bool) (y n : Nat) :
    (packedFrom w black y n).length = bpr w * n := by
  induction n generalizing y with
  | zero => rfl
  | succ n ih => rw [packedFrom, List.length_append, length_rowBytes, ih, Nat.mul_succ, Nat.add_comm]

/-- Byte `j` of row `y + k` stands behind `k` whole rows. -/
theorem getElem?_packedFrom {w j k n : Nat} (black : Nat → Nat → Bool) (y : Nat) (hk : k < n) (hj : j < bpr w) :
    (packedFrom w black y n)[k * bpr w + j]? = some (rowByte w (fun x => black x (y + k)) j) := by
  induction n generalizing y k with
  | zero => exact absurd hk k.not_lt_zero
  | succ n ih =>
    rw [packedFrom]
    cases k with
    | zero =>
      rw [Nat.zero_mul, Nat.zero_add, List.getElem?_append_left (by simpa using hj)]
      exact getElem?_rowBytes _ hj
    | succ k =>
      have hskip : (k + 1) * bpr w + j = (rowBytes w fun x => black x y).length + (k * bpr w + j) := by
        rw [length_rowBytes, Nat.succ_mul, Nat.add_comm _ (bpr w), Nat.add_assoc]
      rw [hskip, List.getElem?_append_right (Nat.le_add_right _ _), Nat.add_sub_cancel_left,
        ih (y + 1) (Nat.lt_of_succ_lt_succ hk), Nat.add_right_comm, Nat.add_assoc]

/-! ### Uppercase hex digits (00_scope.md R10) -/

theorem hexVal_hexDigit : ∀ v < 16, hexVal (hexDigit v) = some (BitVec.ofNat 4 v) := by decide

theorem hexDigit_ne_newline : ∀ v < 16, hexDigit v ≠ newline := by decide

theorem isUpperHex_hexDigit : ∀ v < 16, isUpperHex (hexDigit v) = true := by decide

theorem hexOfBytes_cons (b : Byte) (bs : Str) :
    hexOfBytes (b :: bs) = hexDigit (b.toNat / 16 % 16) :: hexDigit (b.toNat % 16) :: hexOfBytes bs := rfl

/-- The two digits of a byte are its nibbles, the high one first. -/
theorem nibbles_append (b : Byte) : BitVec.ofNat 4 (b.toNat / 16 % 16) ++ BitVec.ofNat 4 (b.toNat % 16) = b := by
  have := b.isLt
  apply BitVec.eq_of_toNat_eq
  rw [BitVec.toNat_append, BitVec.toNat_ofNat, BitVec.toNat_ofNat, ← Nat.shiftLeft_add_eq_or_of_lt (by omega),
    Nat.shiftLeft_eq]
  omega

@[simp] theorem length_hexOfBytes (bs : Str) : (hexOfBytes bs).length = 2 * bs.length := by
  induction bs with
  | nil => rfl
  | cons b bs ih => rw [hexOfBytes_cons, List.length_cons, List.length_cons, ih, List.length_cons, Nat.mul_succ]

theorem isUpperHex_of_mem_hexOfBytes {bs : Str} {c : Byte} (hc : c ∈ hexOfBytes bs) : isUpperHex c = true := by
  induction bs with
  | nil => exact absurd hc List.not_mem_nil
  | cons b bs ih =>
    rw [hexOfBytes_cons, List.mem_cons, List.mem_cons] at hc
    obtain rfl | rfl | hc := hc
    · exact isUpperHex_hexDigit _ (Nat.mod_lt _ (by decide))
    · exact isUpperHex_hexDigit _ (Nat.mod_lt _ (by decide))
    · exact ih hc

/-! ### Converting the hex text to bytes (44_binary_framer.md R202) -/

/-- Between two bytes, the loop of R202 converts the text to `out`, from whatever offset and last digit it stands at. -/
def ConvertsTo (t out : Str) : Prop := ∀ i lastDigit, hexToBytesFrom i none lastDigit t = .bytes out

theorem ConvertsTo.hexToBytes_eq {t out : Str} (h : ConvertsTo t out) : hexToBytes t = .bytes out := h 0 0

theorem convertsTo_nil : ConvertsTo [] [] := fun _ _ => rfl

theorem ConvertsTo.newline_cons {t out : Str} (h : ConvertsTo t out) : ConvertsTo (newline :: t) out := fun i d => by
  rw [hexToBytesFrom, if_pos rfl, h]

theorem ConvertsTo.byte_append {t out : Str} (h : ConvertsTo t out) (b : Byte) :
    ConvertsTo (hexDigit (b.toNat / 16 % 16) :: hexDigit (b.toNat % 16) :: t) (b :: out) := fun i d => by
  have hhigh : b.toNat / 16 % 16 < 16 := Nat.mod_lt _ (by decide)
  have hlow : b.toNat % 16 < 16 := Nat.mod_lt _ (by decide)
  have hrest := h (i + 1 + 1) (i + 1)
  simp only [hexToBytesFrom, hexDigit_ne_newline _ hhigh, hexDigit_ne_newline _ hlow, hexVal_hexDigit _ hhigh,
    hexVal_hexDigit _ hlow, if_false, hrest, consByte, nibbles_append]

theorem ConvertsTo.hexOfBytes_append {t out : Str} (h : ConvertsTo t out) (bs : Str) :
    ConvertsTo (hexOfBytes bs ++ t) (bs ++ out) := by
  induction bs with
  | nil => exact h
  | cons b bs ih => exact ih.byte_append b

theorem hexTextFrom_convertsTo_packedFrom (w : Nat) (black : Nat → Nat → Bool) (y n : Nat) :
    ConvertsTo (hexTextFrom w black y n) (packedFrom w black y n) := by
  induction n generalizing y with
  | zero => exact convertsTo_nil
  | succ n ih => exact (ih (y + 1)).newline_cons.hexOfBytes_append _

/-! ### The hex text passes the check of COMPRESS (43_rle_compressor.md R181) -/

/-- Offsets are counted as `q` whole rows and `k` characters of the next. -/
theorem rowOffset_mod (rowLen q : Nat) {k : Nat} (hk : k ≤ 2 * rowLen) :
    ((2 * rowLen + 1) * q + k) % (2 * rowLen + 1) = k := by
  rw [Nat.mul_add_mod, Nat.mod_eq_of_lt (Nat.lt_succ_of_le hk)]

theorem hexTextFaultFrom_nil (rowLen q : Nat) : hexTextFaultFrom rowLen ((2 * rowLen + 1) * q) [] = none := by
  simp [hexTextFaultFrom]

theorem hexTextFaultFrom_digit {rowLen k : Nat} {c : Byte} (hk : k < 2 * rowLen) (hc : isUpperHex c = true) (q : Nat)
    (t : Str) : hexTextFaultFrom rowLen ((2 * rowLen + 1) * q + k) (c :: t) =
      hexTextFaultFrom rowLen ((2 * rowLen + 1) * q + (k + 1)) t := by
  rw [hexTextFaultFrom, rowOffset_mod rowLen q hk.le, if_neg (by simp [hc]), if_neg (by simp [hk.ne]), Nat.add_assoc]

theorem hexTextFaultFrom_newline (rowLen q : Nat) (t : Str) :
    hexTextFaultFrom rowLen ((2 * rowLen + 1) * q + 2 * rowLen) (newline :: t) =
      hexTextFaultFrom rowLen ((2 * rowLen + 1) * (q + 1)) t := by
  rw [hexTextFaultFrom, rowOffset_mod rowLen q le_rfl, if_neg (by simp), if_neg (by simp), Nat.mul_succ, Nat.add_assoc]

theorem hexTextFaultFrom_digits {rowLen k : Nat} {ds : Str} (hds : ∀ c ∈ ds, isUpperHex c = true)
    (hk : k + ds.length ≤ 2 * rowLen) (q : Nat) (t : Str) :
    hexTextFaultFrom rowLen ((2 * rowLen + 1) * q + k) (ds ++ t) =
      hexTextFaultFrom rowLen ((2 * rowLen + 1) * q + (k + ds.length)) t := by
  induction ds generalizing k with
  | nil => rfl
  | cons c ds ih =>
    obtain ⟨hc, hrest⟩ := List.forall_mem_cons.1 hds
    rw [List.length_cons] at hk ⊢
    rw [List.cons_append, hexTextFaultFrom_digit (by omega) hc, ih hrest (by omega), Nat.add_right_comm, Nat.add_assoc]

/-- A row of the hex text and its newline are one whole row of the format. -/
theorem hexTextFaultFrom_row {rowLen : Nat} {bs : Str} (hbs : bs.length = rowLen) (q : Nat) (t : Str) :
    hexTextFaultFrom rowLen ((2 * rowLen + 1) * q) (hexOfBytes bs ++ newline :: t) =
      hexTextFaultFrom rowLen ((2 * rowLen + 1) * (q + 1)) t := by
  have hlen : 0 + (hexOfBytes bs).length = 2 * rowLen := by rw [length_hexOfBytes, hbs, Nat.zero_add]
  have hdigits := hexTextFaultFrom_digits (fun _ => isUpperHex_of_mem_hexOfBytes) hlen.le q (newline :: t)
  rw [hlen, hexTextFaultFrom_newline] at hdigits
  exact hdigits

theorem hexTextFaultFrom_hexTextFrom (w : Nat) (black : Nat → Nat → Bool) (y n q : Nat) :
    hexTextFaultFrom (bpr w) ((2 * bpr w + 1) * q) (hexTextFrom w black y n) = none := by
  induction n generalizing y q with
  | zero => exact hexTextFaultFrom_nil _ q
  | succ n ih => rw [hexTextFrom, hexTextFaultFrom_row (length_rowBytes w _), ih]

theorem hexTextFault_hexTextFrom (w : Nat) (black : Nat → Nat → Bool) (y n : Nat) :
    hexTextFault (hexTextFrom w black y n) (bpr w) = none :=
  hexTextFaultFrom_hexTextFrom w black y n 0

/-- Settles O46: the bytes by their index, the conversion row by row, and the check row by row. -/
theorem packedBytesAreTheHexTextsBytes : Obligations.PackedBytesAreTheHexTextsBytes := by
  intro s
  refine ⟨fun y j hy hj => ?_, ?_, ?_, ?_⟩
  · have hbyte := getElem?_packedFrom s.black 0 hy hj
    rwa [Nat.zero_add] at hbyte
  · exact length_packedFrom _ s.black 0 _
  · exact (hexTextFrom_convertsTo_packedFrom _ s.black 0 _).hexToBytes_eq
  · exact hexTextFault_hexTextFrom _ s.black 0 _

end Sys2Proof.Machine
end

section
/-! SUPPORT. The packer U2 (42_row_packer.md): the bits of a row byte, its bytes as the accumulator of R143 emits them, the
length of the hex text, and the PACK command. One fact carries the first two: adding a pixel to the sum of R142 is the
accumulator's OR, because the sum has only bits above the new one. -/

namespace Sys2Proof.Machine

/-! ### The sum of R142 is the accumulator of R143 -/

/-- Of the sum over the first `k` pixels only the bits from `8 - k` up can be 1. -/
theorem two_pow_dvd_packSum (w : Nat) (row : Nat → Bool) (j : Nat) {k : Nat} (hk : k ≤ 8) :
    2 ^ (8 - k) ∣ packSum w row j k := by
  induction k with
  | zero => exact Nat.dvd_zero _
  | succ k ih =>
    have hsum : 2 ^ (8 - (k + 1)) ∣ packSum w row j k :=
      (Nat.pow_dvd_pow 2 (by omega)).trans (ih (Nat.le_of_succ_le hk))
    rw [packSum]
    split
    · exact hsum.add (Nat.pow_dvd_pow 2 (by omega))
    · exact hsum

theorem packSum_succ_of_black {w : Nat} {row : Nat → Bool} {j k : Nat} (hk : k < 8) (hw : 8 * j + k < w)
    (hrow : row (8 * j + k) = true) : packSum w row j (k + 1) = packSum w row j k ||| 2 ^ (7 - k) := by
  obtain ⟨m, hm⟩ := two_pow_dvd_packSum w row j hk.le
  rw [packSum, if_pos ⟨hw, hrow⟩, hm, Nat.two_pow_add_eq_or_of_lt (Nat.pow_lt_pow_right (by decide) (by omega))]

theorem packSum_succ_of_not_black {w : Nat} {row : Nat → Bool} {j k : Nat}
    (h : ¬(8 * j + k < w ∧ row (8 * j + k) = true)) : packSum w row j (k + 1) = packSum w row j k := by
  rw [packSum, if_neg h, Nat.add_zero]

/-- A pixel enters the sum as it enters the accumulator of R143, and beyond W as a white one. -/
theorem ofNat_packSum_succ (w : Nat) (row : Nat → Bool) (j : Nat) {k : Nat} (hk : k < 8) :
    BitVec.ofNat 8 (packSum w row j (k + 1)) = BitVec.ofNat 8 (packSum w row j k) |||
      (if decide (8 * j + k < w) && row (8 * j + k) then 1#8 <<< (7 - k) else 0) := by
  by_cases h : 8 * j + k < w ∧ row (8 * j + k) = true
  · obtain ⟨hw, hrow⟩ := h
    have hbit : BitVec.ofNat 8 (2 ^ (7 - k)) = 1#8 <<< (7 - k) := BitVec.eq_of_toNat_eq (by simp [Nat.shiftLeft_eq])
    rw [packSum_succ_of_black hk hw hrow, BitVec.ofNat_or, hbit, if_pos (by simp [hw, hrow])]
  · rw [packSum_succ_of_not_black h, if_neg (by simpa using h)]
    exact BitVec.or_zero.symm

theorem ofNat_packSum_succ_in_row {w : Nat} {row : Nat → Bool} {j k : Nat} (hk : k < 8) (hw : 8 * j + k < w) :
    BitVec.ofNat 8 (packSum w row j (k + 1)) =
      BitVec.ofNat 8 (packSum w row j k) ||| (if row (8 * j + k) then 1#8 <<< (7 - k) else 0) := by
  rw [ofNat_packSum_succ w row j hk, decide_eq_true hw, Bool.true_and]

/-- At and beyond W nothing enters the sum. -/
theorem packSum_beyond_row (row : Nat → Bool) (j : Nat) {k n : Nat} (hkn : k ≤ n) :
    packSum (8 * j + k) row j n = packSum (8 * j + k) row j k := by
  induction n, hkn using Nat.le_induction with
  | base => rfl
  | succ n hn ih => rw [packSum_succ_of_not_black (by omega), ih]

/-- So the byte in which the row ends is the sum over the pixels it has. -/
theorem rowByte_of_row_end (row : Nat → Bool) (j : Nat) {k : Nat} (hk : k ≤ 8) :
    rowByte (8 * j + k) row j = BitVec.ofNat 8 (packSum (8 * j + k) row j k) := by
  rw [rowByte, packSum_beyond_row row j hk]

/-! ### The bits of a row byte (42_row_packer.md R142) -/

/-- The one bit that a pixel brings (42_row_packer.md R143). -/
theorem getLsbD_pixelBit : ∀ (b : Bool), ∀ k < 8, ∀ i < 8,
    (if b then 1#8 <<< (7 - k) else 0).getLsbD (7 - i) = (decide (i = k) && b) := by decide

/-- The bits of the sum over the first `k` pixels: pixel by pixel from bit 7 down, and 0 below. -/
theorem getLsbD_ofNat_packSum (w : Nat) (row : Nat → Bool) (j : Nat) {k i : Nat} (hk : k ≤ 8) (hi : i < 8) :
    (BitVec.ofNat 8 (packSum w row j k)).getLsbD (7 - i) =
      (decide (i < k) && (decide (8 * j + i < w) && row (8 * j + i))) := by
  induction k with
  | zero => simp [packSum]
  | succ k ih =>
    rw [ofNat_packSum_succ w row j hk, BitVec.getLsbD_or, ih (Nat.le_of_succ_le hk), getLsbD_pixelBit _ k hk i hi]
    by_cases hik : i = k
    · subst hik; simp
    · simp [Nat.le_iff_lt_or_eq, hik]

/-- Settles O43: the whole byte is the sum over all 8 pixels. -/
theorem rowBytePlacesPixels : Obligations.RowBytePlacesPixels := by
  intro w row j k hk
  rw [rowByte, getLsbD_ofNat_packSum w row j le_rfl hk, decide_eq_true hk, Bool.true_and]

/-! ### The serializer (42_row_packer.md R143) -/

/-- The accumulator, `k` pixels into byte `j` with `n` pixels of the row to come, emits the row's bytes from `j` on. -/
theorem serialize_packSum {w : Nat} (row : Nat → Bool) {j k n : Nat} (hk : k < 8) (hw : 8 * j + k + n = w) :
    serialize (BitVec.ofNat 8 (packSum w row j k)) k ((List.range' (8 * j + k) n).map row) =
      rowBytesFrom w row j ((k + n + 7) / 8) := by
  induction n generalizing j k with
  | zero =>
    subst hw
    cases k with
    | zero => rfl
    | succ k =>
      have hbytes : (k + 1 + 0 + 7) / 8 = 1 := by omega
      rw [hbytes, Nat.add_zero, List.range'_zero, List.map_nil, serialize, if_pos k.succ_pos, rowBytesFrom, rowBytesFrom,
        rowByte_of_row_end row j hk.le]
  | succ n ih =>
    rw [List.range'_succ, List.map_cons, serialize, ← ofNat_packSum_succ_in_row hk (by omega)]
    split
    next hfull =>
      have hbytes : (k + (n + 1) + 7) / 8 = (0 + n + 7) / 8 + 1 := by omega
      have hnext : 8 * j + k + 1 = 8 * (j + 1) + 0 := by omega
      rw [hbytes, rowBytesFrom, hfull, hnext, ← ih (by decide) (by omega)]
      rfl
    next hroom =>
      rw [Nat.add_assoc (8 * j), ih (by omega) (by omega), Nat.add_assoc k, Nat.add_comm 1]

/-- Settles O44: the accumulator from the start of the row, with nothing in it. -/
theorem packerIsTheSerializer : Obligations.PackerIsTheSerializer := by
  intro w row
  have hbytes : (0 + w + 7) / 8 = bpr w := by rw [Nat.zero_add]; rfl
  rw [rowBytes, ← hbytes, ← serialize_packSum row (by decide) (by omega), List.range_eq_range']
  rfl

/-! ### The length of the hex text (42_row_packer.md R146) -/

@[simp] theorem length_hexTextFrom (w : Nat) (black : Nat → Nat → Bool) (y n : Nat) :
    (hexTextFrom w black y n).length = n * (2 * bpr w + 1) := by
  induction n generalizing y with
  | zero => rw [hexTextFrom, List.length_nil, Nat.zero_mul]
  | succ n ih =>
    rw [hexTextFrom, List.length_append, List.length_cons, length_hexOfBytes, length_rowBytes, ih]
    ring

/-- Rows of width 0 are empty, so only their newlines are left. -/
theorem hexTextFrom_width_zero (black : Nat → Nat → Bool) (y n : Nat) :
    hexTextFrom 0 black y n = List.replicate n newline := by
  induction n generalizing y with
  | zero => rfl
  | succ n ih => exact congrArg (newline :: ·) (ih (y + 1))

/-- Settles O45: by the rows, each of `2 bpr` digits and a newline. -/
theorem hexTextLength : Obligations.HexTextLength := by
  intro s
  refine ⟨length_hexTextFrom _ s.black 0 _, fun hw => ?_, fun hh => ?_⟩
  · rw [State.hexText, hw]
    exact hexTextFrom_width_zero _ 0 _
  · rw [State.hexText, hh]
    rfl

/-! ### PACK (42_row_packer.md R150) -/

/-- PACK's result: its output string with the size results, behind the pixel-region check. -/
theorem packResult_eq (s : State) : packResult s = withPixelRegion s (emitOut s s.hexText (sizeEffects s)) := rfl

theorem exec_pack (s : State) : exec .pack s = .next (s.complete false (packResult s)) := rfl

theorem bpr_toNat_word (w : BitVec 16) : (BitVec.ofNat 32 (bpr w.toNat)).toNat = bpr w.toNat :=
  Nat.mod_eq_of_lt ((bpr_le w).trans_lt (by decide))

theorem totalBytesOf_toNat_word (w h : BitVec 16) :
    (BitVec.ofNat 32 (totalBytesOf w.toNat h.toNat)).toNat = totalBytesOf w.toNat h.toNat :=
  Nat.mod_eq_of_lt ((totalBytesOf_le w h).trans_lt (by decide))

/-- The output string in OUT, and the size results exact in their registers (42_row_packer.md R141). -/
theorem complete_emitOut_sizeEffects {s : State} {p : Str} (h : p.length ≤ s.outSize.toNat) (keepsOut : Bool) :
    let t := s.complete keepsOut (emitOut s p (sizeEffects s))
    Produced p s t ∧ t.bytesPerRow.toNat = bpr s.width.toNat ∧
      t.totalBytes.toNat = totalBytesOf s.width.toNat s.height.toNat ∧ t.crc = s.crc := by
  refine ⟨complete_emit_produced (by simp [sizeEffects]) h, ?_⟩
  rw [emitOut_fits h]
  exact ⟨bpr_toNat_word s.width, totalBytesOf_toNat_word s.width s.height, rfl⟩

/-- Settles O27, check by check: the pixel region, the size of OUT, and then the effects. -/
theorem packFollowsItsRule : Obligations.PackFollowsItsRule := by
  refine ⟨rfl, fun s => ⟨fun hin hout => ?_, fun hin => ?_, fun hin hout => ?_⟩⟩
  all_goals refine ⟨_, exec_pack s, ?_⟩; rw [packResult_eq]
  · rw [withPixelRegion_fits hin]
    exact complete_emitOut_sizeEffects hout false
  · rw [withPixelRegion_absent hin]
    exact State.complete_error_failedWith s false _ _
  · rw [withPixelRegion_fits hin, emitOut_overflows hout]
    exact State.complete_error_failedWith s false _ _

end Sys2Proof.Machine
end

section
/-! SUPPORT. The check of COMPRESS (43_rle_compressor.md R181): the offset it reports, and the texts it accepts as lists of
rows, which are the texts that U2 makes. -/

namespace Sys2Proof.Machine

/-! ### The offset that the check reports -/

/-- The byte `c` fits the format at offset `i`: a digit in a row, the newline at its end. -/
def FitsAt (rowLen i : Nat) (c : Byte) : Prop :=
  (i % (2 * rowLen + 1) < 2 * rowLen → isUpperHex c = true) ∧ (i % (2 * rowLen + 1) = 2 * rowLen → c = newline)

/-- The first `k` bytes of `t`, which starts at offset `i`, fit. -/
def FitsBelow (rowLen i : Nat) (t : Str) (k : Nat) : Prop :=
  ∀ j < k, ∀ c, t[j]? = some c → FitsAt rowLen (i + j) c

/-- Byte `k` of `t`, which starts at offset `i`, does not fit, or `t` stops there inside a row. -/
def FaultAt (rowLen i : Nat) (t : Str) (k : Nat) : Prop :=
  (∃ c, t[k]? = some c ∧ ¬FitsAt rowLen (i + k) c) ∨ k = t.length ∧ (i + k) % (2 * rowLen + 1) ≠ 0

theorem isUpperHex_iff (c : Byte) :
    isUpperHex c = true ↔ 0x30 ≤ c.toNat ∧ c.toNat ≤ 0x39 ∨ 0x41 ≤ c.toNat ∧ c.toNat ≤ 0x46 := by
  simp [isUpperHex]

theorem hexTextFaultFrom_of_fits {rowLen i : Nat} {c : Byte} (h : FitsAt rowLen i c) (t : Str) :
    hexTextFaultFrom rowLen i (c :: t) = hexTextFaultFrom rowLen (i + 1) t := by
  obtain ⟨hdigit, hnewline⟩ := h
  rw [hexTextFaultFrom, if_neg fun hbad => by simp [hdigit hbad.1] at hbad, if_neg fun hbad => hbad.2 (hnewline hbad.1)]

theorem hexTextFaultFrom_of_not_fits {rowLen i : Nat} {c : Byte} (h : ¬FitsAt rowLen i c) (t : Str) :
    hexTextFaultFrom rowLen i (c :: t) = some i := by
  rw [hexTextFaultFrom]
  split
  · rfl
  next hdigit =>
    rw [if_pos]
    by_contra hnewline
    exact h ⟨by simpa using hdigit, by simpa using hnewline⟩

theorem fitsAt_of_no_fault {rowLen i : Nat} {c : Byte} {t : Str} (h : hexTextFaultFrom rowLen i (c :: t) = none) :
    FitsAt rowLen i c := by
  by_contra hbad
  rw [hexTextFaultFrom_of_not_fits hbad] at h
  exact Option.some_ne_none i h

theorem fitsBelow_zero (rowLen i : Nat) (t : Str) : FitsBelow rowLen i t 0 := fun j hj => absurd hj j.not_lt_zero

theorem fitsBelow_cons {rowLen i k : Nat} {c : Byte} {t : Str} :
    FitsBelow rowLen i (c :: t) (k + 1) ↔ FitsAt rowLen i c ∧ FitsBelow rowLen (i + 1) t k := by
  simp only [FitsBelow, Nat.forall_lt_succ_left, List.getElem?_cons_zero, List.getElem?_cons_succ, Option.some.injEq,
    forall_eq', Nat.add_zero, Nat.add_assoc, Nat.add_comm 1]

theorem faultAt_cons_zero {rowLen i : Nat} {c : Byte} {t : Str} :
    FaultAt rowLen i (c :: t) 0 ↔ ¬FitsAt rowLen i c := by
  simp [FaultAt]

theorem faultAt_cons_succ {rowLen i k : Nat} {c : Byte} {t : Str} :
    FaultAt rowLen i (c :: t) (k + 1) ↔ FaultAt rowLen (i + 1) t k := by
  simp [FaultAt, Nat.add_assoc, Nat.add_comm 1]

/-- From offset `i` on, the check answers the first fault. -/
theorem hexTextFaultFrom_eq_some_iff (rowLen i : Nat) (t : Str) (e : Nat) :
    hexTextFaultFrom rowLen i t = some e ↔ ∃ k, i + k = e ∧ FitsBelow rowLen i t k ∧ FaultAt rowLen i t k := by
  induction t generalizing i with
  | nil => simp [hexTextFaultFrom, FaultAt, FitsBelow, and_comm]
  | cons c t ih =>
    rw [← Nat.or_exists_add_one]
    by_cases hc : FitsAt rowLen i c
    · simp only [hexTextFaultFrom_of_fits hc, ih, fitsBelow_cons, faultAt_cons_zero, faultAt_cons_succ, hc,
        not_true_eq_false, and_false, false_or, true_and, Nat.add_assoc, Nat.add_comm 1]
    · simp [hexTextFaultFrom_of_not_fits hc, fitsBelow_cons, faultAt_cons_zero, hc, fitsBelow_zero]

/-- Settles O59: the first fault, counted from offset 0. -/
theorem hexTextFaultIsTheFirstBadOffset : Obligations.HexTextFaultIsTheFirstBadOffset := by
  intro t b e
  have hfits (i : Nat) (c : Byte) : FitsAt b i c ↔
      (i % (2 * b + 1) < 2 * b → 0x30 ≤ c.toNat ∧ c.toNat ≤ 0x39 ∨ 0x41 ≤ c.toNat ∧ c.toNat ≤ 0x46) ∧
        (i % (2 * b + 1) = 2 * b → c = 0x0A) := and_congr (imp_congr_right fun _ => isUpperHex_iff c) Iff.rfl
  simp only [← hfits, not_forall, exists_prop]
  rw [hexTextFault, hexTextFaultFrom_eq_some_iff]
  simp only [Nat.zero_add, exists_eq_left, FitsBelow, FaultAt]
  refine and_congr_right fun _ => or_congr ?_ ?_
  · exact ⟨fun ⟨c, hc, hbad⟩ => ⟨(List.getElem?_eq_some_iff.1 hc).1, c, hc, hbad⟩, fun h => h.2⟩
  · exact and_congr_right fun he => by rw [he]

/-! ### The accepted texts as rows (42_row_packer.md R145) -/

/-- A row of the format: `2 * rowLen` uppercase hex digits. -/
def IsHexRow (rowLen : Nat) (r : Str) : Prop := r.length = 2 * rowLen ∧ ∀ c ∈ r, isUpperHex c = true

/-- Rows as one text, each followed by a newline. -/
def joinRows (rows : List Str) : Str := rows.flatMap (· ++ [newline])

@[simp] theorem joinRows_nil : joinRows [] = [] := rfl

theorem joinRows_cons_eq (r : Str) (rows : List Str) : joinRows (r :: rows) = (r ++ [newline]) ++ joinRows rows := rfl

@[simp] theorem joinRows_cons (r : Str) (rows : List Str) : joinRows (r :: rows) = r ++ newline :: joinRows rows := by
  simp [joinRows]

theorem joinRows_append (rows rows' : List Str) : joinRows (rows ++ rows') = joinRows rows ++ joinRows rows' :=
  List.flatMap_append

theorem ne_newline_of_isUpperHex {c : Byte} (h : isUpperHex c = true) : c ≠ newline := by
  rintro rfl
  exact absurd h (by decide)

theorem IsHexRow.newline_not_mem {rowLen : Nat} {r : Str} (h : IsHexRow rowLen r) : newline ∉ r := fun hmem =>
  ne_newline_of_isUpperHex (h.2 _ hmem) rfl

theorem IsHexRow.ne_nil {rowLen : Nat} {r : Str} (h : IsHexRow rowLen r) (hpos : 1 ≤ rowLen) : r ≠ [] := by
  rintro rfl
  exact absurd h.1 (by rw [List.length_nil]; omega)

theorem splitRows_append_newline {r : Str} (h : newline ∉ r) (t : Str) :
    splitRows (r ++ newline :: t) = r :: splitRows t := by
  induction r with
  | nil => rw [List.nil_append, splitRows, if_pos rfl]
  | cons c r ih =>
    obtain ⟨hc, hr⟩ := not_or.1 (mt List.mem_cons.2 h)
    rw [List.cons_append, splitRows, if_neg (Ne.symm hc), ih hr]

theorem splitRows_joinRows {rows : List Str} (h : ∀ r ∈ rows, newline ∉ r) : splitRows (joinRows rows) = rows := by
  induction rows with
  | nil => rfl
  | cons r rows ih =>
    obtain ⟨hr, hrows⟩ := List.forall_mem_cons.1 h
    rw [joinRows_cons, splitRows_append_newline hr, ih hrows]

/-- What the check accepts from the `k`-th character of a row on: the rest of that row, and then whole rows. -/
theorem exists_rows_of_no_fault {rowLen q k : Nat} {t : Str} (hk : k ≤ 2 * rowLen) (ht : t ≠ [])
    (h : hexTextFaultFrom rowLen ((2 * rowLen + 1) * q + k) t = none) :
    ∃ ds rows, t = ds ++ newline :: joinRows rows ∧ k + ds.length = 2 * rowLen ∧ (∀ c ∈ ds, isUpperHex c = true) ∧
      ∀ r ∈ rows, IsHexRow rowLen r := by
  induction t generalizing q k with
  | nil => exact absurd rfl ht
  | cons c t ih =>
    have hfits := fitsAt_of_no_fault h
    rw [FitsAt, rowOffset_mod rowLen q hk] at hfits
    obtain ⟨hdigit, hnewline⟩ := hfits
    obtain hlt | rfl := hk.lt_or_eq
    · have hc := hdigit hlt
      rw [hexTextFaultFrom_digit hlt hc] at h
      have ht' : t ≠ [] := by
        rintro rfl
        simp [hexTextFaultFrom, Nat.mod_eq_of_lt (Nat.succ_lt_succ hlt)] at h
      obtain ⟨ds, rows, rfl, hlen, hds, hrows⟩ := ih hlt ht' h
      exact ⟨c :: ds, rows, rfl, by rw [List.length_cons]; omega, List.forall_mem_cons.2 ⟨hc, hds⟩, hrows⟩
    · obtain rfl := hnewline rfl
      rw [hexTextFaultFrom_newline] at h
      by_cases ht' : t = []
      · exact ⟨[], [], by simp [ht'], rfl, by simp, by simp⟩
      · obtain ⟨ds, rows, rfl, hlen, hds, hrows⟩ := ih (q := q + 1) (k := 0) (Nat.zero_le _) ht' h
        have hrow : IsHexRow rowLen ds := ⟨by omega, hds⟩
        exact ⟨[], ds :: rows, by simp, rfl, by simp, List.forall_mem_cons.2 ⟨hrow, hrows⟩⟩

/-- An accepted text is one row or more. -/
theorem exists_rows_of_accepted {t : Str} {b : Nat} (ht : t ≠ []) (h : hexTextFault t b = none) :
    ∃ r rows, t = joinRows (r :: rows) ∧ IsHexRow b r ∧ ∀ r' ∈ rows, IsHexRow b r' := by
  obtain ⟨ds, rows, rfl, hlen, hds, hrows⟩ := exists_rows_of_no_fault (q := 0) (Nat.zero_le _) ht h
  exact ⟨ds, rows, (joinRows_cons _ _).symm, ⟨by omega, hds⟩, hrows⟩

theorem length_joinRows {b : Nat} {rows : List Str} (h : ∀ r ∈ rows, IsHexRow b r) :
    (joinRows rows).length = (2 * b + 1) * rows.length := by
  induction rows with
  | nil => rfl
  | cons r rows ih =>
    obtain ⟨⟨hr, -⟩, hrows⟩ := List.forall_mem_cons.1 h
    rw [joinRows_cons, List.length_append, List.length_cons, ih hrows, hr, List.length_cons]
    ring

/-! ### Each accepted text is the hex text of an image -/

theorem exists_hexDigit_eq {c : Byte} (h : isUpperHex c = true) : ∃ v < 16, hexDigit v = c := by
  have hlt := c.isLt
  obtain ⟨hlo, hhi⟩ | ⟨hlo, hhi⟩ := (isUpperHex_iff c).1 h
  · refine ⟨c.toNat - 0x30, by omega, BitVec.eq_of_toNat_eq ?_⟩
    rw [hexDigit, if_pos (by omega), BitVec.toNat_ofNat]
    omega
  · refine ⟨c.toNat - 0x37, by omega, BitVec.eq_of_toNat_eq ?_⟩
    rw [hexDigit, if_neg (by omega), BitVec.toNat_ofNat]
    omega

theorem exists_byte_of_digits {c d : Byte} (hc : isUpperHex c = true) (hd : isUpperHex d = true) :
    ∃ x : Byte, hexDigit (x.toNat / 16 % 16) = c ∧ hexDigit (x.toNat % 16) = d := by
  obtain ⟨v, hv, rfl⟩ := exists_hexDigit_eq hc
  obtain ⟨w, hw, rfl⟩ := exists_hexDigit_eq hd
  have hx : (BitVec.ofNat 8 (16 * v + w)).toNat = 16 * v + w := by rw [BitVec.toNat_ofNat]; omega
  refine ⟨BitVec.ofNat 8 (16 * v + w), ?_, ?_⟩
  · rw [hx]; congr 1; omega
  · rw [hx]; congr 1; omega

theorem exists_hexOfBytes_eq {b : Nat} {r : Str} (h : IsHexRow b r) : ∃ bs : Str, bs.length = b ∧ hexOfBytes bs = r := by
  induction b generalizing r with
  | zero => exact ⟨[], rfl, (List.length_eq_zero_iff.1 h.1).symm⟩
  | succ b ih =>
    obtain ⟨hlen, hdigits⟩ := h
    match r with
    | [] | [_] => simp [Nat.mul_succ] at hlen
    | c :: d :: r =>
      obtain ⟨hc, hd, hr⟩ : isUpperHex c = true ∧ isUpperHex d = true ∧ ∀ x ∈ r, isUpperHex x = true := by
        simpa using hdigits
      obtain ⟨bs, hbs, rfl⟩ := ih ⟨by simp only [List.length_cons] at hlen; omega, hr⟩
      obtain ⟨x, rfl, rfl⟩ := exists_byte_of_digits hc hd
      exact ⟨x :: bs, by rw [List.length_cons, hbs], hexOfBytes_cons x bs⟩

theorem exists_map_hexOfBytes_eq {b : Nat} {rows : List Str} (h : ∀ r ∈ rows, IsHexRow b r) :
    ∃ bss : List Str, (∀ bs ∈ bss, bs.length = b) ∧ bss.map hexOfBytes = rows := by
  induction rows with
  | nil => exact ⟨[], by simp, rfl⟩
  | cons r rows ih =>
    obtain ⟨hr, hrows⟩ := List.forall_mem_cons.1 h
    obtain ⟨bs, hlen, rfl⟩ := exists_hexOfBytes_eq hr
    obtain ⟨bss, hbss, rfl⟩ := ih hrows
    exact ⟨bs :: bss, List.forall_mem_cons.2 ⟨hlen, hbss⟩, rfl⟩

/-- The image whose rows have the given bytes (42_row_packer.md R142 read backwards). -/
def pixelOf (bytesOf : Nat → Str) (x y : Nat) : Bool := ((bytesOf y).getD (x / 8) 0).getLsbD (7 - x % 8)

theorem bpr_mul_eight (b : Nat) : bpr (8 * b) = b := by
  rw [bpr, ceilDiv]
  omega

theorem rowByte_pixelOf (bytesOf : Nat → Str) {b y j : Nat} (hj : j < b) :
    rowByte (8 * b) (fun x => pixelOf bytesOf x y) j = (bytesOf y).getD j 0 := by
  refine BitVec.eq_of_getLsbD_eq fun i hi => ?_
  have hbit := rowBytePlacesPixels (8 * b) (fun x => pixelOf bytesOf x y) j (7 - i) (by omega)
  have hbyte : (8 * j + (7 - i)) / 8 = j := by omega
  have hplace : 7 - (8 * j + (7 - i)) % 8 = i := by omega
  have hin : 8 * j + (7 - i) < 8 * b := by omega
  rwa [Nat.sub_sub_self (Nat.le_of_lt_succ hi), decide_eq_true hin, Bool.true_and, pixelOf, hbyte, hplace] at hbit

theorem rowBytes_pixelOf {bytesOf : Nat → Str} {b y : Nat} (h : (bytesOf y).length = b) :
    rowBytes (8 * b) (fun x => pixelOf bytesOf x y) = bytesOf y := by
  refine List.ext_getElem (by rw [length_rowBytes, bpr_mul_eight, h]) fun j hj hj' => ?_
  simp only [rowBytes_eq_map, List.getElem_map, List.getElem_range]
  rw [rowByte_pixelOf bytesOf (h ▸ hj'), List.getD_eq_getElem _ _ hj']

theorem hexTextFrom_pixelOf {bytesOf : Nat → Str} {b y : Nat} {bss : List Str} (hlen : ∀ bs ∈ bss, bs.length = b)
    (hrows : ∀ k, (hk : k < bss.length) → bytesOf (y + k) = bss[k]) :
    hexTextFrom (8 * b) (pixelOf bytesOf) y bss.length = joinRows (bss.map hexOfBytes) := by
  induction bss generalizing y with
  | nil => rfl
  | cons bs bss ih =>
    obtain ⟨hbs, hbss⟩ := List.forall_mem_cons.1 hlen
    have hrow : bytesOf y = bs := hrows 0 (Nat.succ_pos _)
    have hrest : ∀ k, (hk : k < bss.length) → bytesOf (y + 1 + k) = bss[k] := fun k hk => by
      rw [Nat.add_assoc, Nat.add_comm 1]
      exact hrows (k + 1) (Nat.succ_lt_succ hk)
    rw [List.length_cons, hexTextFrom, rowBytes_pixelOf (by rw [hrow, hbs]), hrow, ih hbss hrest, List.map_cons,
      joinRows_cons]

/-- Settles O48: an accepted text is rows of digits, and each row spells the bytes that its pixels pack to. -/
theorem acceptedTextsAreHexTexts : Obligations.AcceptedTextsAreHexTexts := by
  intro t b
  constructor
  · rintro ⟨hfault, ht⟩
    obtain ⟨r, rows, rfl, hr, hrows⟩ := exists_rows_of_accepted ht hfault
    obtain ⟨bss, hlen, hbss⟩ := exists_map_hexOfBytes_eq (List.forall_mem_cons.2 ⟨hr, hrows⟩)
    have hheight : bss.length = rows.length + 1 := by rw [← List.length_map hexOfBytes, hbss, List.length_cons]
    refine ⟨bss.length, pixelOf fun y => bss.getD y [], by omega, ?_⟩
    rw [hexTextFrom_pixelOf hlen fun k hk => by rw [Nat.zero_add, List.getD_eq_getElem _ _ hk], hbss]
  · rintro ⟨h, black, hh, rfl⟩
    have hfault := hexTextFault_hexTextFrom (8 * b) black 0 h
    rw [bpr_mul_eight] at hfault
    refine ⟨hfault, List.ne_nil_of_length_pos ?_⟩
    rw [length_hexTextFrom]
    exact Nat.mul_pos hh (Nat.succ_pos _)

end Sys2Proof.Machine
end

section
/-! SUPPORT. The compressor U3 (43_rle_compressor.md): its run tokens, its loop row by row, and the run-length form. -/

namespace Sys2Proof.Machine

/-! ### Run tokens (43_rle_compressor.md R164) -/

/-- The count letters of a run token. -/
def countLetters (n : Nat) : Str :=
  List.replicate (n / 400) (letter20 400) ++ (if n % 400 / 20 ≠ 0 then [letter20 (n % 400 / 20 * 20)] else []) ++
    (if n % 20 ≠ 0 then [letter1 (n % 20)] else [])

theorem runToken_eq (n : Nat) (c : Byte) : runToken n c = countLetters n ++ [c] := rfl

theorem runToken_zero (c : Byte) : runToken 0 c = [c] := rfl

theorem letterValue_letter1 {r : Nat} (hr : r < 20) (hpos : r ≠ 0) : letterValue (letter1 r) = r := by
  have hcode : (letter1 r).toNat = 0x46 + r := by rw [letter1, BitVec.toNat_ofNat]; omega
  rw [letterValue, hcode, if_pos (by omega), Nat.add_sub_cancel_left]

theorem letterValue_letter20 {k : Nat} (hk : k < 21) (hpos : k ≠ 0) : letterValue (letter20 (k * 20)) = k * 20 := by
  have hcode : (letter20 (k * 20)).toNat = 0x66 + k := by rw [letter20, BitVec.toNat_ofNat]; omega
  rw [letterValue, hcode, if_neg (by omega), if_pos (by omega), Nat.add_sub_cancel_left, Nat.mul_comm]

theorem letterValue_letter400 : letterValue (letter20 400) = 400 := letterValue_letter20 (k := 20) (by decide) (by decide)

theorem letterValue_ne_zero_of_mem {n : Nat} {x : Byte} (hx : x ∈ countLetters n) : letterValue x ≠ 0 := by
  simp only [countLetters, List.mem_append] at hx
  obtain (hx | hx) | hx := hx
  · rw [List.eq_of_mem_replicate hx, letterValue_letter400]
    decide
  · split at hx
    next hk => rw [List.mem_singleton.1 hx, letterValue_letter20 (by omega) hk]; omega
    next => exact absurd hx List.not_mem_nil
  · split at hx
    next hr => rwa [List.mem_singleton.1 hx, letterValue_letter1 (by omega) hr]
    next => exact absurd hx List.not_mem_nil

theorem sum_letterValue_countLetters (n : Nat) : ((countLetters n).map letterValue).sum = n := by
  have htwenties : ((if n % 400 / 20 ≠ 0 then [letter20 (n % 400 / 20 * 20)] else []).map letterValue).sum =
      n % 400 / 20 * 20 := by
    split
    next hk => rw [List.map_singleton, List.sum_singleton, letterValue_letter20 (by omega) hk]
    next hk => rw [not_not.1 hk]; rfl
  have hunits : ((if n % 20 ≠ 0 then [letter1 (n % 20)] else []).map letterValue).sum = n % 20 := by
    split
    next hr => rw [List.map_singleton, List.sum_singleton, letterValue_letter1 (by omega) hr]
    next hr => rw [not_not.1 hr]; rfl
  rw [countLetters, List.map_append, List.map_append, List.sum_append, List.sum_append, htwenties, hunits,
    List.map_replicate, List.sum_replicate, letterValue_letter400, smul_eq_mul]
  omega

/-- One letter for each 400, and at most one for the twenties and one for the units. -/
theorem length_countLetters (n : Nat) : (countLetters n).length =
    n / 400 + (if n % 400 / 20 ≠ 0 then 1 else 0) + (if n % 20 ≠ 0 then 1 else 0) := by
  rw [countLetters, List.length_append, List.length_append, List.length_replicate,
    apply_ite List.length, apply_ite List.length]
  rfl

/-- A run costs at most two bytes a character (43_rle_compressor.md R175). -/
theorem length_runToken_le {n : Nat} (hn : 1 ≤ n) (c : Byte) : (runToken n c).length ≤ 2 * n := by
  rw [runToken_eq, List.length_append, length_countLetters, List.length_singleton]
  split <;> split <;> omega

/-- Settles O47: by the three kinds of letters. -/
theorem runTokenLettersAddUp : Obligations.RunTokenLettersAddUp := by
  intro n c
  rw [runToken_eq, List.dropLast_concat]
  exact ⟨sum_letterValue_countLetters n, List.getLast?_concat, fun _ => letterValue_ne_zero_of_mem, runToken_zero c,
    fun hn => length_runToken_le hn c⟩

/-! ### Runs (43_rle_compressor.md R166) -/

/-- A row starts with a run of its first character. -/
theorem exists_runsOf_cons (c : Byte) (t : Str) : ∃ k rs, runsOf (c :: t) = (c, k + 1) :: rs := by
  rw [runsOf]
  split
  · exact ⟨0, [], rfl⟩
  next r rs _ =>
    split
    · exact ⟨r.2, rs, rfl⟩
    · exact ⟨0, r :: rs, rfl⟩

theorem runsOf_cons_of_eq {c : Byte} {t : Str} {k : Nat} {rs : List (Byte × Nat)} (h : runsOf t = (c, k) :: rs) :
    runsOf (c :: t) = (c, k + 1) :: rs := by
  rw [runsOf, h]
  exact if_pos rfl

theorem runsOf_cons_of_ne {a c : Byte} {t : Str} {k : Nat} {rs : List (Byte × Nat)} (h : runsOf t = (c, k) :: rs)
    (hne : a ≠ c) : runsOf (a :: t) = (a, 1) :: (c, k) :: rs := by
  rw [runsOf, h]
  exact if_neg hne

theorem runsOf_singleton_inv {a : Byte} {k : Nat} {rs : List (Byte × Nat)} (h : runsOf [a] = (a, k + 1) :: rs) :
    k = 0 ∧ rs = [] := by
  simpa [runsOf, eq_comm] using h

/-- The second character of a row extends the first run or starts the second. -/
theorem runsOf_cons_cons_cases {a c : Byte} {t : Str} {k : Nat} {rs : List (Byte × Nat)}
    (h : runsOf (a :: c :: t) = (a, k + 1) :: rs) :
    (∃ k', c = a ∧ k = k' + 1 ∧ runsOf (c :: t) = (c, k' + 1) :: rs) ∨
      ∃ k' rs', c ≠ a ∧ k = 0 ∧ rs = (c, k' + 1) :: rs' ∧ runsOf (c :: t) = (c, k' + 1) :: rs' := by
  obtain ⟨k', rs', hruns⟩ := exists_runsOf_cons c t
  by_cases hc : c = a
  · subst hc
    rw [runsOf_cons_of_eq hruns] at h
    obtain ⟨⟨-, rfl⟩, rfl⟩ : (c = c ∧ k' + 1 = k) ∧ rs' = rs := by simpa using h
    exact .inl ⟨k', rfl, rfl, hruns⟩
  · rw [runsOf_cons_of_ne hruns (Ne.symm hc)] at h
    obtain ⟨hk, hrs⟩ : k = 0 ∧ (c, k' + 1) :: rs' = rs := by simpa [eq_comm] using h
    exact .inr ⟨k', rs', hc, hk, hrs.symm, hruns⟩

/-- The characters of runs as the reference decoder reads them, a count of 0 standing for one (43_rle_compressor.md R176). -/
def expandRuns (rs : List (Byte × Nat)) : Str := rs.flatMap fun r => List.replicate (max r.2 1) r.1

@[simp] theorem expandRuns_cons (r : Byte × Nat) (rs : List (Byte × Nat)) :
    expandRuns (r :: rs) = List.replicate (max r.2 1) r.1 ++ expandRuns rs := rfl

theorem expandRuns_longer (c : Byte) {k : Nat} (hk : 1 ≤ k) (rs : List (Byte × Nat)) :
    expandRuns ((c, k + 1) :: rs) = c :: expandRuns ((c, k) :: rs) := by
  rw [expandRuns_cons, expandRuns_cons, max_eq_left hk, max_eq_left (by omega), List.replicate_succ, List.cons_append]

/-- The maximal runs of a row give it back. -/
theorem expandRuns_runsOf (row : Str) : expandRuns (runsOf row) = row := by
  induction row with
  | nil => rfl
  | cons a t ih =>
    cases t with
    | nil => rfl
    | cons c t =>
      obtain ⟨k, rs, hruns⟩ := exists_runsOf_cons c t
      rw [hruns] at ih
      by_cases hac : a = c
      · subst hac
        rw [runsOf_cons_of_eq hruns, expandRuns_longer a (by omega), ih]
      · rw [runsOf_cons_of_ne hruns hac, expandRuns_cons, ih]
        rfl

/-! ### The text of a row (43_rle_compressor.md R174) -/

theorem firstRowText_of_runs {row : Str} {c : Byte} {k : Nat} {rs : List (Byte × Nat)}
    (h : runsOf row = (c, k + 1) :: rs) : firstRowText row = runTokens ((c, k) :: rs) := by
  rw [firstRowText, h]
  rfl

theorem laterRowText_of_one_run {row : Str} {c : Byte} {k : Nat} (h : runsOf row = [(c, k)]) :
    laterRowText row = rowEndToken k k c := by
  simp [laterRowText, h, rowEndToken]

theorem laterRowText_of_runs {row : Str} {r r' : Byte × Nat} {rs : List (Byte × Nat)} (h : runsOf row = r :: r' :: rs) :
    laterRowText row = runTokens (r :: r' :: rs) := by
  simp [laterRowText, h]

theorem rowEndToken_of_lt {m n : Nat} (h : n < m) (c : Byte) : rowEndToken m n c = runToken n c := by
  simp [rowEndToken, h.ne]

/-- What the loop of R170 makes of the rest of a row, with `n` characters `a` counted before it. -/
def restText (m n : Nat) (a : Byte) : Str → Str
  | [] => rowEndToken m n a
  | c :: t => if c = a then restText m (n + 1) a t else runToken n a ++ restText m 1 c t

theorem restText_cons_same (m n : Nat) (a : Byte) (t : Str) : restText m n a (a :: t) = restText m (n + 1) a t :=
  if_pos rfl

theorem restText_cons_of_ne (m n : Nat) {a c : Byte} (h : c ≠ a) (t : Str) :
    restText m n a (c :: t) = runToken n a ++ restText m 1 c t := if_neg h

/-- A count that cannot reach the width of the row takes no shortcut (43_rle_compressor.md R167). -/
theorem restText_of_short {m n k : Nat} {a : Byte} {t : Str} {rs : List (Byte × Nat)} (hm : n + t.length < m)
    (h : runsOf (a :: t) = (a, k + 1) :: rs) : restText m n a t = runTokens ((a, n + k) :: rs) := by
  induction t generalizing n a k rs with
  | nil =>
    obtain ⟨rfl, rfl⟩ := runsOf_singleton_inv h
    rw [restText, rowEndToken_of_lt (by simpa using hm), runTokens, runTokens, List.append_nil, Nat.add_zero]
  | cons c t ih =>
    rw [List.length_cons] at hm
    obtain ⟨k', rfl, rfl, hruns⟩ | ⟨k', rs', hne, rfl, rfl, hruns⟩ := runsOf_cons_cons_cases h
    · rw [restText_cons_same, ih (by omega) hruns, Nat.add_assoc, Nat.add_comm 1]
    · rw [restText_cons_of_ne m n hne, ih (by omega) hruns, Nat.add_comm 1 k']
      rfl

/-- A count that reaches the width of the row does so only if the row is one run. -/
theorem restText_of_full {m n k : Nat} {a : Byte} {t : Str} {rs : List (Byte × Nat)} (hn : 1 ≤ n) (hm : n + t.length = m)
    (h : runsOf (a :: t) = (a, k + 1) :: rs) :
    restText m n a t = if rs = [] then rowEndToken m (n + k) a else runTokens ((a, n + k) :: rs) := by
  induction t generalizing n a k rs with
  | nil =>
    obtain ⟨rfl, rfl⟩ := runsOf_singleton_inv h
    rw [restText, if_pos rfl, Nat.add_zero]
  | cons c t ih =>
    rw [List.length_cons] at hm
    obtain ⟨k', rfl, rfl, hruns⟩ | ⟨k', rs', hne, rfl, rfl, hruns⟩ := runsOf_cons_cons_cases h
    · rw [restText_cons_same, ih (by omega) (by omega) hruns, Nat.add_assoc, Nat.add_comm 1]
    · rw [restText_cons_of_ne m n hne, restText_of_short (by omega) hruns, Nat.add_comm 1 k', if_neg (List.cons_ne_nil _ _)]
      rfl

/-- The seed counts the first row one short (43_rle_compressor.md R169). -/
theorem restText_zero_eq_firstRowText {m : Nat} {c : Byte} {t : Str} (hm : (c :: t).length = m) :
    restText m 0 c t = firstRowText (c :: t) := by
  obtain ⟨k, rs, hruns⟩ := exists_runsOf_cons c t
  rw [List.length_cons] at hm
  rw [restText_of_short (by omega) hruns, firstRowText_of_runs hruns, Nat.zero_add]

theorem restText_one_eq_laterRowText {m : Nat} {c : Byte} {t : Str} (hm : (c :: t).length = m) :
    restText m 1 c t = laterRowText (c :: t) := by
  obtain ⟨k, rs, hruns⟩ := exists_runsOf_cons c t
  rw [List.length_cons, Nat.add_comm] at hm
  rw [restText_of_full le_rfl hm hruns, Nat.add_comm 1 k]
  cases rs with
  | nil =>
    have hwidth : k + 1 = m := by
      have hrow := congrArg List.length (expandRuns_runsOf (c :: t))
      rw [hruns] at hrow
      simp only [expandRuns, List.flatMap_singleton, List.length_replicate, List.length_cons] at hrow
      omega
    rw [if_pos rfl, hwidth, laterRowText_of_one_run (hwidth ▸ hruns)]
  | cons r rs => rw [if_neg (List.cons_ne_nil _ _), laterRowText_of_runs hruns]

/-! ### The loop, row by row (43_rle_compressor.md R170) -/

theorem runStep_seed {p : RunProgress} (h : p.unit.seed = true) (m : Nat) (c : Byte) :
    runStep m p c = { p with unit := { p.unit with aux := c, seed := false } } := if_pos h

theorem runStep_newline {p : RunProgress} (h : p.unit.seed = false) (m : Nat) : runStep m p newline = endRow m p := by
  simp [runStep, h]

theorem runStep_same {p : RunProgress} (h : p.unit.seed = false) (m : Nat) (hnl : p.unit.aux ≠ newline) :
    runStep m p p.unit.aux = { p with unit := { p.unit with counter := p.unit.counter + 1 } } := by
  simp [runStep, h, hnl]

theorem runStep_change {p : RunProgress} (h : p.unit.seed = false) (m : Nat) {c : Byte} (hnl : c ≠ newline)
    (hc : c ≠ p.unit.aux) : runStep m p c = { p with unit := { p.unit with
      line := p.unit.line ++ runToken p.unit.counter p.unit.aux, aux := c, counter := 1 } } := by
  simp [runStep, h, hnl, hc]

/-- `q` stands later in the row than `p`, and the row would have the text `text` if it ended there. -/
structure RowScanned (m : Nat) (p : RunProgress) (text : Str) (q : RunProgress) : Prop where
  seed : q.unit.seed = false
  text : q.unit.line ++ rowEndToken m q.unit.counter q.unit.aux = text
  prev : q.unit.prev = p.unit.prev
  prevValid : q.unit.prevValid = p.unit.prevValid
  out : q.out = p.out

theorem foldl_runStep_scanned {m : Nat} {t : Str} {p : RunProgress} (ht : newline ∉ t) (hseed : p.unit.seed = false) :
    RowScanned m p (p.unit.line ++ restText m p.unit.counter p.unit.aux t) (t.foldl (runStep m) p) := by
  induction t generalizing p with
  | nil => exact ⟨hseed, rfl, rfl, rfl, rfl⟩
  | cons c t ih =>
    obtain ⟨hc, htl⟩ := not_or.1 (mt List.mem_cons.2 ht)
    rw [List.foldl_cons]
    by_cases hsame : c = p.unit.aux
    · subst hsame
      rw [runStep_same hseed m (Ne.symm hc), restText_cons_same]
      obtain ⟨h1, h2, h3, h4, h5⟩ := ih (p := { p with unit := { p.unit with counter := p.unit.counter + 1 } }) htl hseed
      exact ⟨h1, h2, h3, h4, h5⟩
    · rw [runStep_change hseed m (Ne.symm hc) hsame, restText_cons_of_ne _ _ hsame, ← List.append_assoc]
      obtain ⟨h1, h2, h3, h4, h5⟩ := ih (p := { p with unit := { p.unit with
        line := p.unit.line ++ runToken p.unit.counter p.unit.aux, aux := c, counter := 1 } }) htl hseed
      exact ⟨h1, h2, h3, h4, h5⟩

/-- U3 between two rows: `prev` in the line-repeat buffer and `out` put out so far; the next character replaces `aux`. -/
def betweenRows (aux : Byte) (prev out : Str) : RunProgress :=
  { unit := { aux := aux, counter := 1, seed := true, line := [], prev := prev, prevValid := true }, out := out }

theorem endRow_of_repeat {m : Nat} {p : RunProgress} {text : Str} (hvalid : p.unit.prevValid = true)
    (htext : p.unit.line ++ rowEndToken m p.unit.counter p.unit.aux = text) (hprev : p.unit.prev = text) :
    endRow m p = betweenRows p.unit.aux text (p.out ++ [colon]) := by
  simp [endRow, betweenRows, htext, hprev, hvalid]

theorem endRow_of_new {m : Nat} {p : RunProgress} {text : Str}
    (htext : p.unit.line ++ rowEndToken m p.unit.counter p.unit.aux = text)
    (hnew : ¬(p.unit.prevValid = true ∧ text = p.unit.prev)) :
    endRow m p = betweenRows p.unit.aux text (p.out ++ text) := by
  simp only [endRow, betweenRows, htext, if_neg hnew]

/-- The first row has no row before it to repeat (43_rle_compressor.md R171). -/
theorem foldl_firstRow {m : Nat} {c : Byte} {t : Str} (ht : newline ∉ t) (hm : (c :: t).length = m) :
    ∃ a, (t ++ [newline]).foldl (runStep m) { unit := runUnitStart c, out := [] } =
      betweenRows a (firstRowText (c :: t)) (firstRowText (c :: t)) := by
  obtain ⟨hseed, htext, -, hvalid, hout⟩ := foldl_runStep_scanned (m := m) (p := ⟨runUnitStart c, []⟩) ht rfl
  replace htext := htext.trans (restText_zero_eq_firstRowText hm)
  have hnew := endRow_of_new htext fun h => Bool.noConfusion (hvalid.symm.trans h.1)
  rw [List.foldl_append, List.foldl_cons, List.foldl_nil, runStep_newline hseed, hnew, hout]
  exact ⟨_, rfl⟩

theorem foldl_laterRow {m : Nat} {r : Str} (hr : newline ∉ r) (hne : r ≠ []) (hm : r.length = m) (a : Byte)
    (prev out : Str) : ∃ a', (r ++ [newline]).foldl (runStep m) (betweenRows a prev out) =
      betweenRows a' (laterRowText r) (out ++ if laterRowText r = prev then [colon] else laterRowText r) := by
  obtain ⟨c, t, rfl⟩ := List.exists_cons_of_ne_nil hne
  obtain ⟨hseed, htext, hprev, hvalid, hout⟩ := foldl_runStep_scanned (m := m) (t := t)
    (p := ⟨{ aux := c, counter := 1, seed := false, line := [], prev := prev, prevValid := true }, out⟩)
    (fun h => hr (List.mem_cons_of_mem _ h)) rfl
  replace htext := htext.trans (restText_one_eq_laterRowText hm)
  rw [List.cons_append, List.foldl_cons, runStep_seed rfl, List.foldl_append, List.foldl_cons, List.foldl_nil,
    betweenRows, runStep_newline hseed]
  split
  next hrepeat => exact ⟨_, (endRow_of_repeat hvalid htext (hprev.trans hrepeat.symm)).trans (by rw [hout])⟩
  next hnew => exact ⟨_, (endRow_of_new htext fun h => hnew (h.2.trans hprev)).trans (by rw [hout])⟩

theorem emitRows_cons (prev text : Str) (texts : List Str) :
    emitRows prev (text :: texts) = (if text = prev then [colon] else text) ++ emitRows text texts := by
  rw [emitRows]
  split
  next h => rw [h]; rfl
  next => rfl

theorem foldl_laterRows {b : Nat} (hb : 1 ≤ b) {rows : List Str} (hrows : ∀ r ∈ rows, IsHexRow b r) (a : Byte)
    (prev out : Str) : ((joinRows rows).foldl (runStep (2 * b)) (betweenRows a prev out)).out =
      out ++ emitRows prev (rows.map laterRowText) := by
  induction rows generalizing a prev out with
  | nil => exact (List.append_nil out).symm
  | cons r rows ih =>
    obtain ⟨hr, hrows⟩ := List.forall_mem_cons.1 hrows
    obtain ⟨a', hrow⟩ := foldl_laterRow hr.newline_not_mem (hr.ne_nil hb) hr.1 a prev out
    rw [joinRows_cons_eq, List.foldl_append, hrow, ih hrows, List.map_cons, emitRows_cons, List.append_assoc]

theorem zplCompress_joinRows {b : Nat} (hb : 1 ≤ b) {r : Str} {rows : List Str} (hr : IsHexRow b r)
    (hrows : ∀ r' ∈ rows, IsHexRow b r') : zplCompress (joinRows (r :: rows)) b =
      firstRowText r ++ emitRows (firstRowText r) (rows.map laterRowText) := by
  obtain ⟨c, t, rfl⟩ := List.exists_cons_of_ne_nil (hr.ne_nil hb)
  obtain ⟨a, hrow⟩ := foldl_firstRow (fun h => hr.newline_not_mem (List.mem_cons_of_mem _ h)) hr.1
  rw [joinRows_cons_eq, List.cons_append, List.cons_append, zplCompress, List.foldl_append, hrow,
    foldl_laterRows hb hrows]

theorem runLengthForm_joinRows {b : Nat} {r : Str} {rows : List Str} (h : ∀ r' ∈ r :: rows, IsHexRow b r') :
    runLengthForm (joinRows (r :: rows)) = firstRowText r ++ emitRows (firstRowText r) (rows.map laterRowText) := by
  rw [runLengthForm, splitRows_joinRows fun r' hr' => (h r' hr').newline_not_mem]

/-- Settles O49: row by row, the loop's text of a row is that of its runs. -/
theorem compressorIsRunLengthForm : Obligations.CompressorIsRunLengthForm := by
  intro t b hb ht hfault
  obtain ⟨r, rows, rfl, hr, hrows⟩ := exists_rows_of_accepted ht hfault
  rw [zplCompress_joinRows hb hr hrows, runLengthForm_joinRows (List.forall_mem_cons.2 ⟨hr, hrows⟩)]

end Sys2Proof.Machine
end

section
/-! SUPPORT. The output of the compressor U3 (43_rle_compressor.md R172, R175, R177): its length, its alphabet and its
first character. -/

namespace Sys2Proof.Machine

/-! ### The texts of rows -/

/-- A row's text is the tokens of its runs, but for the two shortcuts (43_rle_compressor.md R174). -/
theorem laterRowText_cases {row : Str} (h : row ≠ []) :
    laterRowText row = runTokens (runsOf row) ∨
      laterRowText row = [comma] ∧ row = List.replicate row.length 0x30 ∨
      laterRowText row = [bang] ∧ row = List.replicate row.length 0x46 := by
  obtain ⟨c, t, rfl⟩ := List.exists_cons_of_ne_nil h
  obtain ⟨k, rs, hruns⟩ := exists_runsOf_cons c t
  cases rs with
  | cons r rs => rw [hruns]; exact .inl (laterRowText_of_runs hruns)
  | nil =>
    have hrow : c :: t = List.replicate (k + 1) c := by
      rw [← expandRuns_runsOf (c :: t), hruns, expandRuns_cons, max_eq_left (Nat.succ_pos k)]
      exact List.append_nil _
    rw [laterRowText_of_one_run hruns, hruns, hrow, List.length_replicate, rowEndToken]
    split
    next hzero => exact .inr (.inl ⟨rfl, by rw [hzero.2]⟩)
    next =>
      split
      next hfull => exact .inr (.inr ⟨rfl, by rw [hfull.2]⟩)
      next => exact .inl (List.append_nil _).symm

theorem mem_of_mem_runsOf {row : Str} {r : Byte × Nat} (h : r ∈ runsOf row) : r.1 ∈ row := by
  rw [← expandRuns_runsOf row, expandRuns, List.mem_flatMap]
  exact ⟨r, h, List.mem_replicate.2 ⟨by omega, rfl⟩⟩

/-- A row has a first run, its runs are of digits, and their characters are the row. -/
theorem IsHexRow.exists_runs {b : Nat} {row : Str} (h : IsHexRow b row) (hb : 1 ≤ b) :
    ∃ c k rs, runsOf row = (c, k + 1) :: rs ∧ expandRuns ((c, k + 1) :: rs) = row ∧
      ∀ r ∈ (c, k + 1) :: rs, isUpperHex r.1 = true := by
  obtain ⟨c, t, rfl⟩ := List.exists_cons_of_ne_nil (h.ne_nil hb)
  obtain ⟨k, rs, hruns⟩ := exists_runsOf_cons c t
  refine ⟨c, k, rs, hruns, ?_, fun r hr => h.2 _ (mem_of_mem_runsOf (by rwa [hruns]))⟩
  rw [← hruns, expandRuns_runsOf]

theorem runToken_ne_nil (n : Nat) (c : Byte) : runToken n c ≠ [] := by simp [runToken_eq]

theorem length_runTokens_le (rs : List (Byte × Nat)) : (runTokens rs).length ≤ 2 * (expandRuns rs).length := by
  induction rs with
  | nil => exact Nat.zero_le _
  | cons r rs ih =>
    have htoken : (runToken r.2 r.1).length ≤ 2 * max r.2 1 := by
      obtain hzero | hpos := Nat.eq_zero_or_pos r.2
      · simp [hzero, runToken_zero]
      · rw [max_eq_left hpos]; exact length_runToken_le hpos r.1
    rw [runTokens, expandRuns_cons, List.length_append, List.length_append, List.length_replicate]
    omega

/-! ### The alphabet (30_encoding.md R98) -/

/-- The characters of a row's text: those of the ZPL alphabet without the colon. -/
def InRowAlphabet (c : Byte) : Prop := isUpperHex c = true ∨ letterValue c ≠ 0 ∨ c = comma ∨ c = bang

theorem InRowAlphabet.ne_newline {c : Byte} (h : InRowAlphabet c) : c ≠ newline := by
  rintro rfl
  exact absurd h (by unfold InRowAlphabet; decide)

theorem InRowAlphabet.ne_colon {c : Byte} (h : InRowAlphabet c) : c ≠ colon := by
  rintro rfl
  exact absurd h (by unfold InRowAlphabet; decide)

theorem inRowAlphabet_of_mem_runTokens {rs : List (Byte × Nat)} (hrs : ∀ r ∈ rs, isUpperHex r.1 = true) {x : Byte}
    (hx : x ∈ runTokens rs) : InRowAlphabet x := by
  induction rs with
  | nil => exact absurd hx List.not_mem_nil
  | cons r rs ih =>
    obtain ⟨hr, hrs⟩ := List.forall_mem_cons.1 hrs
    rw [runTokens, runToken_eq, List.mem_append, List.mem_append, List.mem_singleton] at hx
    obtain (hletter | rfl) | hrest := hx
    · exact .inr (.inl (letterValue_ne_zero_of_mem hletter))
    · exact .inl hr
    · exact ih hrs hrest

/-- What R172, R175 and R177 say of the text of a row of `b` bytes. -/
structure IsRowText (b : Nat) (text : Str) : Prop where
  ne_nil : text ≠ []
  length_le : text.length ≤ 4 * b
  alphabet : ∀ c ∈ text, InRowAlphabet c

theorem isRowText_runTokens {b : Nat} {r : Byte × Nat} {rs : List (Byte × Nat)}
    (hlen : (expandRuns (r :: rs)).length ≤ 2 * b) (hdigits : ∀ r' ∈ r :: rs, isUpperHex r'.1 = true) :
    IsRowText b (runTokens (r :: rs)) where
  ne_nil := fun h => runToken_ne_nil _ _ (List.append_eq_nil_iff.1 h).1
  length_le := by have := length_runTokens_le (r :: rs); omega
  alphabet := fun _ => inRowAlphabet_of_mem_runTokens hdigits

theorem firstRowText_isRowText {b : Nat} (hb : 1 ≤ b) {row : Str} (h : IsHexRow b row) : IsRowText b (firstRowText row) := by
  obtain ⟨c, k, rs, hruns, hrow, hdigits⟩ := h.exists_runs hb
  have hlen := (congrArg List.length hrow).trans h.1
  rw [expandRuns_cons, List.length_append, List.length_replicate] at hlen
  rw [firstRowText_of_runs hruns]
  refine isRowText_runTokens ?_ (List.forall_mem_cons.2 (List.forall_mem_cons.1 hdigits))
  rw [expandRuns_cons, List.length_append, List.length_replicate]
  omega

theorem laterRowText_isRowText {b : Nat} (hb : 1 ≤ b) {row : Str} (h : IsHexRow b row) : IsRowText b (laterRowText row) := by
  have hlen : 1 ≤ 4 * b := by omega
  obtain htokens | ⟨hcomma, -⟩ | ⟨hbang, -⟩ := laterRowText_cases (h.ne_nil hb)
  · obtain ⟨c, k, rs, hruns, hrow, hdigits⟩ := h.exists_runs hb
    rw [htokens, hruns]
    exact isRowText_runTokens (by rw [hrow, h.1]) hdigits
  · rw [hcomma]
    exact ⟨List.cons_ne_nil _ _, hlen, by simp [InRowAlphabet]⟩
  · rw [hbang]
    exact ⟨List.cons_ne_nil _ _, hlen, by simp [InRowAlphabet]⟩

/-! ### The whole output -/

theorem emitted_shape {b : Nat} (hb : 1 ≤ b) {prev text : Str} (h : IsRowText b text) :
    (if text = prev then [colon] else text).length ≤ 4 * b ∧
      ∀ c ∈ (if text = prev then [colon] else text), InRowAlphabet c ∨ c = colon := by
  split
  · exact ⟨by rw [List.length_singleton]; omega, fun c hc => .inr (List.mem_singleton.1 hc)⟩
  · exact ⟨h.length_le, fun c hc => .inl (h.alphabet c hc)⟩

theorem emitRows_shape {b : Nat} (hb : 1 ≤ b) {texts : List Str} (h : ∀ text ∈ texts, IsRowText b text) (prev : Str) :
    (emitRows prev texts).length ≤ 4 * b * texts.length ∧ ∀ c ∈ emitRows prev texts, InRowAlphabet c ∨ c = colon := by
  induction texts generalizing prev with
  | nil => exact ⟨Nat.zero_le _, by simp [emitRows]⟩
  | cons text texts ih =>
    obtain ⟨htext, htexts⟩ := List.forall_mem_cons.1 h
    obtain ⟨hlen, halphabet⟩ := emitted_shape (prev := prev) hb htext
    obtain ⟨hlens, halphabets⟩ := ih htexts text
    rw [emitRows_cons, List.length_append, List.length_cons, Nat.mul_succ]
    exact ⟨by omega, fun c hc => (List.mem_append.1 hc).elim (halphabet c) (halphabets c)⟩

theorem inZplAlphabet_of_row_or_colon {c : Byte} (h : InRowAlphabet c ∨ c = colon) : InZplAlphabet c ∧ c ≠ newline := by
  obtain h | rfl := h
  · refine ⟨?_, h.ne_newline⟩
    obtain hdigit | hletter | hcomma | hbang := h
    · exact .inl hdigit
    · exact .inr (.inl hletter)
    · exact .inr (.inr (.inl hcomma))
    · exact .inr (.inr (.inr (.inl hbang)))
  · exact ⟨.inr (.inr (.inr (.inr rfl))), by decide⟩

/-- Settles O51: the first row's text and what the later rows put out, each in its bounds. -/
theorem compressorOutputShape : Obligations.CompressorOutputShape := by
  intro t b hb ht hfault
  obtain ⟨r, rows, rfl, hr, hrows⟩ := exists_rows_of_accepted ht hfault
  have hfirst := firstRowText_isRowText hb hr
  have hlater : ∀ text ∈ rows.map laterRowText, IsRowText b text :=
    List.forall_mem_map.2 fun r' hr' => laterRowText_isRowText hb (hrows r' hr')
  obtain ⟨hlen, halphabet⟩ := emitRows_shape hb hlater (firstRowText r)
  rw [zplCompress_joinRows hb hr hrows, length_joinRows (List.forall_mem_cons.2 ⟨hr, hrows⟩),
    Nat.mul_div_cancel_left _ (Nat.succ_pos _)]
  refine ⟨?length, fun c hc => inZplAlphabet_of_row_or_colon ?alphabet, ?head⟩
  case length =>
    have := hfirst.length_le
    rw [List.length_map] at hlen
    rw [List.length_append, List.length_cons, Nat.mul_succ]
    omega
  case alphabet => exact (List.mem_append.1 hc).elim (fun h => .inl (hfirst.alphabet c h)) (halphabet c)
  case head =>
    rw [List.head?_append_of_ne_nil _ hfirst.ne_nil]
    exact fun hcolon => (hfirst.alphabet colon (List.mem_of_head? hcolon)).ne_colon rfl

end Sys2Proof.Machine
end

section
/-! SUPPORT. The reference decoder on the compressor's output (43_rle_compressor.md R176). A text whose first two characters
differ is decoded row by row. Of any other text one character is lost in the first row, and no later row's text decodes
to more characters than the row has, unless some decoded row is too long. -/

namespace Sys2Proof.Machine

/-! ### The decoder on one run token -/

theorem letterValue_of_isUpperHex {c : Byte} (h : isUpperHex c = true) : letterValue c = 0 := by
  rw [isUpperHex_iff] at h
  rw [letterValue, if_neg (by omega), if_neg (by omega)]

theorem ne_of_isUpperHex {c d : Byte} (h : isUpperHex c = true) (hd : isUpperHex d = false) : c ≠ d := by
  rintro rfl
  rw [h] at hd
  exact Bool.noConfusion hd

theorem foldl_unpackStep_letters (m : Nat) {letters : Str} (h : ∀ x ∈ letters, letterValue x ≠ 0) (p : Unpacked) :
    letters.foldl (unpackStep m) p = { p with count := p.count + (letters.map letterValue).sum } := by
  induction letters generalizing p with
  | nil => rfl
  | cons x letters ih =>
    obtain ⟨hx, hletters⟩ := List.forall_mem_cons.1 h
    rw [List.foldl_cons, unpackStep, if_pos hx, ih hletters, List.map_cons, List.sum_cons, ← Nat.add_assoc]

/-- Digits put at the end of the decoder's row, which ends when it is full. -/
def appendDigits (m : Nat) (p : Unpacked) (ds : Str) : Unpacked :=
  if m ≤ (p.row ++ ds).length then closeRow { p with row := p.row ++ ds } else { p with row := p.row ++ ds, count := 0 }

theorem appendDigits_of_full {m : Nat} {p : Unpacked} {ds : Str} (h : m ≤ p.row.length + ds.length) :
    appendDigits m p ds = closeRow { p with row := p.row ++ ds } := if_pos (by rwa [List.length_append])

theorem appendDigits_of_room {m : Nat} {p : Unpacked} {ds : Str} (h : p.row.length + ds.length < m) :
    appendDigits m p ds = { p with row := p.row ++ ds, count := 0 } :=
  if_neg (by rwa [List.length_append, Nat.not_le])

theorem unpackStep_digit (m : Nat) {c : Byte} (hc : isUpperHex c = true) (p : Unpacked) :
    unpackStep m p c = appendDigits m p (List.replicate (max p.count 1) c) := by
  rw [unpackStep, if_neg (not_not.2 (letterValue_of_isUpperHex hc)), if_neg (ne_of_isUpperHex hc (by decide)),
    if_neg (ne_of_isUpperHex hc (by decide)), if_neg (ne_of_isUpperHex hc (by decide))]
  rfl

/-- The count letters of a token add up to its count (43_rle_compressor.md R164). -/
theorem foldl_unpackStep_runToken (m n : Nat) {c : Byte} (hc : isUpperHex c = true) {p : Unpacked} (hp : p.count = 0) :
    (runToken n c).foldl (unpackStep m) p = appendDigits m p (List.replicate (max n 1) c) := by
  rw [runToken_eq, List.foldl_append, foldl_unpackStep_letters m fun _ => letterValue_ne_zero_of_mem,
    sum_letterValue_countLetters, hp, Nat.zero_add, List.foldl_cons, List.foldl_nil, unpackStep_digit m hc]
  rfl

/-! ### The decoder on a row's text -/

/-- The decoder between two rows. -/
def unpackedRows (text prev : Str) : Unpacked := { text := text, row := [], prev := prev, count := 0 }

theorem closeRow_eq (p : Unpacked) : closeRow p = unpackedRows (p.text ++ p.row ++ [newline]) p.row := rfl

theorem one_le_length_expandRuns (r : Byte × Nat) (rs : List (Byte × Nat)) : 1 ≤ (expandRuns (r :: rs)).length := by
  rw [expandRuns_cons, List.length_append, List.length_replicate]
  omega

/-- Only the last of the runs that fill a row ends it. -/
theorem foldl_unpackStep_runTokens {m : Nat} {r : Byte × Nat} {rs : List (Byte × Nat)} {p : Unpacked}
    (hdigits : ∀ r' ∈ r :: rs, isUpperHex r'.1 = true) (hp : p.count = 0)
    (hm : p.row.length + (expandRuns (r :: rs)).length = m) :
    (runTokens (r :: rs)).foldl (unpackStep m) p = closeRow { p with row := p.row ++ expandRuns (r :: rs) } := by
  induction rs generalizing r p with
  | nil =>
    have hr : expandRuns [r] = List.replicate (max r.2 1) r.1 := List.append_nil _
    rw [hr] at hm ⊢
    rw [runTokens, runTokens, List.append_nil, foldl_unpackStep_runToken m _ (hdigits r List.mem_cons_self) hp,
      appendDigits_of_full hm.ge]
  | cons r' rs ih =>
    obtain ⟨hr, hrest⟩ := List.forall_mem_cons.1 hdigits
    have hmore := one_le_length_expandRuns r' rs
    rw [expandRuns_cons, List.length_append] at hm
    rw [runTokens, List.foldl_append, foldl_unpackStep_runToken m _ hr hp, appendDigits_of_room (by omega),
      ih hrest rfl (by rw [List.length_append]; omega), expandRuns_cons r, List.append_assoc]
    rfl

theorem unpackStep_colon (m : Nat) (p : Unpacked) : unpackStep m p colon = closeRow { p with row := p.row ++ p.prev } := rfl

theorem unpackStep_comma (m : Nat) (p : Unpacked) :
    unpackStep m p comma = closeRow { p with row := p.row ++ List.replicate (m - p.row.length) 0x30 } := rfl

theorem unpackStep_bang (m : Nat) (p : Unpacked) :
    unpackStep m p bang = closeRow { p with row := p.row ++ List.replicate (m - p.row.length) 0x46 } := rfl

theorem foldl_unpackStep_laterRowText {b : Nat} (hb : 1 ≤ b) {row : Str} (h : IsHexRow b row) (text prev : Str) :
    (laterRowText row).foldl (unpackStep (2 * b)) (unpackedRows text prev) =
      unpackedRows (text ++ row ++ [newline]) row := by
  obtain htokens | ⟨hcomma, hrow⟩ | ⟨hbang, hrow⟩ := laterRowText_cases (h.ne_nil hb)
  · obtain ⟨c, k, rs, hruns, hrow, hdigits⟩ := h.exists_runs hb
    rw [htokens, hruns, foldl_unpackStep_runTokens hdigits rfl (by rw [hrow, h.1]; exact Nat.zero_add _), hrow]
    rfl
  · rw [h.1] at hrow
    rw [hcomma, List.foldl_cons, List.foldl_nil, unpackStep_comma, hrow]
    rfl
  · rw [h.1] at hrow
    rw [hbang, List.foldl_cons, List.foldl_nil, unpackStep_bang, hrow]
    rfl

/-- So no two rows share a text (43_rle_compressor.md R177). -/
theorem laterRowText_injective {b : Nat} (hb : 1 ≤ b) {row row' : Str} (h : IsHexRow b row) (h' : IsHexRow b row')
    (htext : laterRowText row = laterRowText row') : row = row' := by
  have hdecoded := foldl_unpackStep_laterRowText hb h [] []
  rw [htext, foldl_unpackStep_laterRowText hb h'] at hdecoded
  exact (congrArg Unpacked.prev hdecoded).symm

/-! ### A text whose first two characters differ -/

theorem runsOf_of_ne {c d : Byte} (hcd : c ≠ d) (t : Str) : ∃ rs, runsOf (c :: d :: t) = (c, 1) :: rs := by
  obtain ⟨k, rs, hruns⟩ := exists_runsOf_cons d t
  exact ⟨_, runsOf_cons_of_ne hruns hcd⟩

/-- The seed's count of 0 and a count of 1 decode alike. -/
theorem foldl_unpackStep_firstRowText {b : Nat} (hb : 1 ≤ b) {c d : Byte} {t : Str} (hcd : c ≠ d)
    (h : IsHexRow b (c :: d :: t)) : (firstRowText (c :: d :: t)).foldl (unpackStep (2 * b)) (unpackedRows [] []) =
      unpackedRows (c :: d :: t ++ [newline]) (c :: d :: t) := by
  obtain ⟨c', k, rs, hruns, hrow, hdigits⟩ := h.exists_runs hb
  obtain ⟨rs', hruns'⟩ := runsOf_of_ne hcd t
  obtain ⟨⟨rfl, rfl⟩, rfl⟩ : (c = c' ∧ k = 0) ∧ rs' = rs := by simpa [hruns'] using hruns
  have hzero : ∀ r ∈ (c, 0) :: rs', isUpperHex r.1 = true := List.forall_mem_cons.2 (List.forall_mem_cons.1 hdigits)
  have hsame : expandRuns ((c, 0) :: rs') = expandRuns ((c, 0 + 1) :: rs') := rfl
  rw [firstRowText_of_runs hruns', foldl_unpackStep_runTokens hzero rfl
    (by rw [hsame, hrow, h.1]; exact Nat.zero_add _), hsame, hrow]
  rfl

/-- A later row's text starts with a letter or a shortcut, so it does not repeat one that starts with a digit. -/
theorem head?_laterRowText {b : Nat} (hb : 1 ≤ b) {row : Str} (h : IsHexRow b row) {c : Byte} (hc : isUpperHex c = true) :
    (laterRowText row).head? ≠ some c := by
  obtain htokens | ⟨hcomma, -⟩ | ⟨hbang, -⟩ := laterRowText_cases (h.ne_nil hb)
  · obtain ⟨c', k, rs, hruns, -, -⟩ := h.exists_runs hb
    have hletters : countLetters (k + 1) ≠ [] := fun hnil => by
      have hsum := sum_letterValue_countLetters (k + 1)
      rw [hnil] at hsum
      exact absurd hsum (Nat.succ_ne_zero k).symm
    rw [htokens, hruns, runTokens, runToken_eq, List.append_assoc, List.head?_append_of_ne_nil _ hletters]
    exact fun hhead => letterValue_ne_zero_of_mem (List.mem_of_head? hhead) (letterValue_of_isUpperHex hc)
  · rw [hcomma]
    exact fun hhead => ne_of_isUpperHex hc (by decide) (Option.some.inj hhead).symm
  · rw [hbang]
    exact fun hhead => ne_of_isUpperHex hc (by decide) (Option.some.inj hhead).symm

theorem head?_firstRowText_of_ne {c d : Byte} (hcd : c ≠ d) (t : Str) : (firstRowText (c :: d :: t)).head? = some c := by
  obtain ⟨rs, hruns⟩ := runsOf_of_ne hcd t
  rw [firstRowText_of_runs hruns, runTokens, runToken_zero]
  rfl

/-- A colon copies the previous row, which has the same text and so is the same row. -/
theorem foldl_unpackStep_emitRows {b : Nat} (hb : 1 ≤ b) {rows : List Str} (hrows : ∀ r ∈ rows, IsHexRow b r)
    {prev prevText : Str} (hprev : ∀ r, IsHexRow b r → laterRowText r = prevText → r = prev) (text : Str) :
    ∃ prev', (emitRows prevText (rows.map laterRowText)).foldl (unpackStep (2 * b)) (unpackedRows text prev) =
      unpackedRows (text ++ joinRows rows) prev' := by
  induction rows generalizing prev prevText text with
  | nil => exact ⟨prev, by rw [joinRows_nil, List.append_nil]; rfl⟩
  | cons r rows ih =>
    obtain ⟨hr, hrows⟩ := List.forall_mem_cons.1 hrows
    have hrow : (if laterRowText r = prevText then [colon] else laterRowText r).foldl (unpackStep (2 * b))
        (unpackedRows text prev) = unpackedRows (text ++ r ++ [newline]) r := by
      split
      next hrepeat =>
        rw [List.foldl_cons, List.foldl_nil, unpackStep_colon, hprev r hr hrepeat]
        rfl
      next => exact foldl_unpackStep_laterRowText hb hr text prev
    obtain ⟨prev', hrest⟩ := ih hrows (fun r' hr' => laterRowText_injective hb hr' hr) (text ++ r ++ [newline])
    refine ⟨prev', ?_⟩
    rw [List.map_cons, emitRows_cons, List.foldl_append, hrow, hrest, joinRows_cons_eq]
    simp only [List.append_assoc]

/-- What the decoder gives back when its input ends: the rows, the last one ended if it was cut short. -/
def unpackedText (p : Unpacked) : Str := if p.row = [] then p.text else p.text ++ p.row ++ [newline]

theorem zplExpand_eq (z : Str) (b : Nat) :
    zplExpand z b = unpackedText (z.foldl (unpackStep (2 * b)) (unpackedRows [] [])) := rfl

theorem zplExpand_of_ne {b : Nat} (hb : 1 ≤ b) {c d : Byte} {t : Str} {rows : List Str} (hcd : c ≠ d)
    (hr : IsHexRow b (c :: d :: t)) (hrows : ∀ r ∈ rows, IsHexRow b r) :
    zplExpand (zplCompress (joinRows ((c :: d :: t) :: rows)) b) b = joinRows ((c :: d :: t) :: rows) := by
  have hnew : ∀ r, IsHexRow b r → laterRowText r = firstRowText (c :: d :: t) → r = c :: d :: t := fun r hlater htext =>
    absurd (htext ▸ head?_firstRowText_of_ne hcd t) (head?_laterRowText hb hlater (hr.2 c List.mem_cons_self))
  obtain ⟨prev, hrest⟩ := foldl_unpackStep_emitRows hb hrows hnew (c :: d :: t ++ [newline])
  rw [zplCompress_joinRows hb hr hrows, zplExpand_eq, List.foldl_append, foldl_unpackStep_firstRowText hb hcd hr, hrest]
  rfl

/-! ### A text whose first two characters agree -/

/-- The decoder, with no count pending, has put out whole rows, and it has decoded at most `d` characters unless one of
those rows is longer than `m`. -/
def DecodedAtMost (m d : Nat) (p : Unpacked) : Prop :=
  ∃ done, p.text = joinRows done ∧ (∀ r ∈ done, newline ∉ r) ∧ newline ∉ p.row ∧ (p.prev = [] ∨ p.prev ∈ done) ∧
    p.count = 0 ∧ ((∃ r ∈ done, m < r.length) ∨ done.flatten.length + p.row.length ≤ d)

namespace DecodedAtMost

variable {m d e : Nat} {p : Unpacked} {ds : Str}

theorem count_eq (h : DecodedAtMost m d p) : p.count = 0 := by
  obtain ⟨-, -, -, -, -, hcount, -⟩ := h
  exact hcount

theorem append (h : DecodedAtMost m d p) (hds : newline ∉ ds) (hlen : ds.length ≤ e) :
    DecodedAtMost m (d + e) { p with row := p.row ++ ds } := by
  obtain ⟨done, htext, hdone, hrow, hprev, hcount, hd⟩ := h
  refine ⟨done, htext, hdone, ?_, hprev, hcount, hd.imp_right fun hd => ?_⟩
  · exact fun hmem => (List.mem_append.1 hmem).elim hrow hds
  · rw [List.length_append]
    omega

theorem append_prev (h : DecodedAtMost m d p) : DecodedAtMost m (d + m) { p with row := p.row ++ p.prev } := by
  obtain ⟨done, htext, hdone, hrow, hprev, hcount, hd⟩ := h
  have hnl : newline ∉ p.prev := hprev.elim (fun hnil => hnil ▸ List.not_mem_nil) (hdone _)
  refine ⟨done, htext, hdone, fun hmem => (List.mem_append.1 hmem).elim hrow hnl, hprev, hcount, ?_⟩
  rw [or_iff_not_imp_left] at hd ⊢
  intro hshort
  have hlen : p.prev.length ≤ m := hprev.elim (fun hnil => hnil ▸ Nat.zero_le m) fun hmem =>
    Nat.le_of_not_lt fun hlong => hshort ⟨_, hmem, hlong⟩
  have := hd hshort
  rw [List.length_append]
  omega

theorem close (h : DecodedAtMost m d p) : DecodedAtMost m d (closeRow p) := by
  obtain ⟨done, htext, hdone, hrow, -, -, hd⟩ := h
  refine ⟨done ++ [p.row], ?_, ?_, List.not_mem_nil, .inr (by simp [closeRow_eq, unpackedRows]), rfl, ?_⟩
  · simp [closeRow_eq, unpackedRows, joinRows_append, htext]
  · exact List.forall_mem_append.2 ⟨hdone, List.forall_mem_singleton.2 hrow⟩
  · refine hd.imp (fun ⟨r, hr, hlong⟩ => ⟨r, List.mem_append_left _ hr, hlong⟩) fun hd => ?_
    simpa [closeRow_eq, unpackedRows] using hd

theorem digits (h : DecodedAtMost m d p) (hds : newline ∉ ds) (hlen : ds.length ≤ e) :
    DecodedAtMost m (d + e) (appendDigits m p ds) := by
  rw [appendDigits]
  split
  · exact (h.append hds hlen).close
  · have hrow := h.append hds hlen
    rwa [← h.count_eq]

theorem tokens (h : DecodedAtMost m d p) {rs : List (Byte × Nat)} (hrs : ∀ r ∈ rs, isUpperHex r.1 = true) :
    DecodedAtMost m (d + (expandRuns rs).length) ((runTokens rs).foldl (unpackStep m) p) := by
  induction rs generalizing d p with
  | nil => exact h
  | cons r rs ih =>
    obtain ⟨hr, hrs⟩ := List.forall_mem_cons.1 hrs
    have hnl : newline ∉ List.replicate (max r.2 1) r.1 := fun hmem =>
      ne_newline_of_isUpperHex hr (List.eq_of_mem_replicate hmem).symm
    rw [runTokens, List.foldl_append, foldl_unpackStep_runToken m _ hr h.count_eq, expandRuns_cons, List.length_append,
      ← Nat.add_assoc]
    exact ih (h.digits hnl le_rfl) hrs

/-- A shortcut fills the row, so it adds at most the row's width. -/
theorem fill (h : DecodedAtMost m d p) {c : Byte} (hc : isUpperHex c = true) :
    DecodedAtMost m (d + m) (closeRow { p with row := p.row ++ List.replicate (m - p.row.length) c }) :=
  (h.append (fun hmem => ne_newline_of_isUpperHex hc (List.eq_of_mem_replicate hmem).symm)
    (by rw [List.length_replicate]; omega)).close

theorem laterRow {b : Nat} (hb : 1 ≤ b) {row : Str} (hrow : IsHexRow b row) (h : DecodedAtMost (2 * b) d p) :
    DecodedAtMost (2 * b) (d + 2 * b) ((laterRowText row).foldl (unpackStep (2 * b)) p) := by
  obtain htokens | ⟨hcomma, -⟩ | ⟨hbang, -⟩ := laterRowText_cases (hrow.ne_nil hb)
  · rw [htokens]
    have htext := h.tokens fun r hr => hrow.2 _ (mem_of_mem_runsOf hr)
    rwa [expandRuns_runsOf, hrow.1] at htext
  · rw [hcomma]
    exact h.fill (by decide)
  · rw [hbang]
    exact h.fill (by decide)

theorem emittedRows {b : Nat} (hb : 1 ≤ b) {rows : List Str} (hrows : ∀ r ∈ rows, IsHexRow b r)
    (h : DecodedAtMost (2 * b) d p) (prevText : Str) : DecodedAtMost (2 * b) (d + 2 * b * rows.length)
      ((emitRows prevText (rows.map laterRowText)).foldl (unpackStep (2 * b)) p) := by
  induction rows generalizing d p prevText with
  | nil => exact h
  | cons r rows ih =>
    obtain ⟨hr, hrows⟩ := List.forall_mem_cons.1 hrows
    have hrow : DecodedAtMost (2 * b) (d + 2 * b)
        ((if laterRowText r = prevText then [colon] else laterRowText r).foldl (unpackStep (2 * b)) p) := by
      split
      · rw [List.foldl_cons, List.foldl_nil, unpackStep_colon]
        exact h.append_prev.close
      · exact h.laterRow hb hr
    rw [List.map_cons, emitRows_cons, List.foldl_append, List.length_cons, Nat.mul_succ, Nat.add_comm (_ * _),
      ← Nat.add_assoc]
    exact ih hrows hrow _

theorem unpackedText_eq (h : DecodedAtMost m d p) : ∃ rows, unpackedText p = joinRows rows ∧ (∀ r ∈ rows, newline ∉ r) ∧
    ((∃ r ∈ rows, m < r.length) ∨ rows.flatten.length ≤ d) := by
  rw [unpackedText]
  split
  next hrow =>
    obtain ⟨done, htext, hdone, -, -, -, hd⟩ := h
    exact ⟨done, htext, hdone, hd.imp_right fun hd => (Nat.le_add_right _ _).trans hd⟩
  next =>
    obtain ⟨done, htext, hdone, -, -, -, hd⟩ := h.close
    exact ⟨done, htext, hdone, hd⟩

end DecodedAtMost

theorem decodedAtMost_start (m : Nat) : DecodedAtMost m 0 (unpackedRows [] []) :=
  ⟨[], rfl, by simp, List.not_mem_nil, .inl rfl, rfl, .inr le_rfl⟩

/-- The seed loses one character of the first run when that run is longer (43_rle_compressor.md R169). -/
theorem decodedAtMost_firstRowText {b : Nat} {c : Byte} {t : Str} (h : IsHexRow b (c :: c :: t)) :
    DecodedAtMost (2 * b) (2 * b - 1) ((firstRowText (c :: c :: t)).foldl (unpackStep (2 * b)) (unpackedRows [] [])) := by
  obtain ⟨k, rs, hruns⟩ := exists_runsOf_cons c t
  have hruns' := runsOf_cons_of_eq hruns
  have hdigits : ∀ r ∈ (c, k + 1) :: rs, isUpperHex r.1 = true := fun r hr =>
    h.2 _ (List.mem_cons_of_mem _ (mem_of_mem_runsOf (hruns ▸ hr)))
  have hlen : (expandRuns ((c, k + 1) :: rs)).length = 2 * b - 1 := by
    rw [← hruns, expandRuns_runsOf, ← h.1]
    rfl
  have htext := (decodedAtMost_start (2 * b)).tokens hdigits
  rwa [Nat.zero_add, hlen, ← firstRowText_of_runs hruns'] at htext

theorem joinRows_injective {rows rows' : List Str} (h : ∀ r ∈ rows, newline ∉ r) (h' : ∀ r ∈ rows', newline ∉ r)
    (hjoin : joinRows rows = joinRows rows') : rows = rows' := by
  rw [← splitRows_joinRows h, hjoin, splitRows_joinRows h']

theorem length_flatten_rows {b : Nat} {rows : List Str} (h : ∀ r ∈ rows, IsHexRow b r) :
    rows.flatten.length = 2 * b * rows.length := by
  induction rows with
  | nil => rfl
  | cons r rows ih =>
    obtain ⟨⟨hr, -⟩, hrows⟩ := List.forall_mem_cons.1 h
    rw [List.flatten_cons, List.length_append, hr, ih hrows, List.length_cons, Nat.mul_succ, Nat.add_comm]

theorem zplExpand_of_eq {b : Nat} (hb : 1 ≤ b) {c : Byte} {t : Str} {rows : List Str}
    (hr : IsHexRow b (c :: c :: t)) (hrows : ∀ r ∈ rows, IsHexRow b r) :
    zplExpand (zplCompress (joinRows ((c :: c :: t) :: rows)) b) b ≠ joinRows ((c :: c :: t) :: rows) := by
  have hall := List.forall_mem_cons.2 ⟨hr, hrows⟩
  have hfirst := decodedAtMost_firstRowText hr
  obtain ⟨decoded, htext, hnl, hd⟩ := (hfirst.emittedRows hb hrows (firstRowText (c :: c :: t))).unpackedText_eq
  rw [zplCompress_joinRows hb hr hrows, zplExpand_eq, List.foldl_append, htext]
  intro hjoin
  obtain rfl := joinRows_injective hnl (fun r h => (hall r h).newline_not_mem) hjoin
  obtain ⟨r, hmem, hlong⟩ | hshort := hd
  · exact absurd (hall r hmem).1 hlong.ne'
  · rw [length_flatten_rows hall, List.length_cons, Nat.mul_succ] at hshort
    omega

/-- Settles O50: the first row decodes to itself or to one character less. -/
theorem compressorRoundTripsUnlessSeedCounts : Obligations.CompressorRoundTripsUnlessSeedCounts := by
  intro t b hb ht hfault
  obtain ⟨r, rows, rfl, hr, hrows⟩ := exists_rows_of_accepted ht hfault
  match r with
  | [] | [_] => exact absurd hr.1 (by simp only [List.length_cons, List.length_nil]; omega)
  | c :: d :: r =>
    have hseed : (joinRows ((c :: d :: r) :: rows))[0]? ≠ (joinRows ((c :: d :: r) :: rows))[1]? ↔ c ≠ d := by simp
    rw [hseed]
    refine ⟨fun hexpand hcd => ?_, fun hcd => zplExpand_of_ne hb hcd hr hrows⟩
    subst hcd
    exact zplExpand_of_eq hb hr hrows hexpand

end Sys2Proof.Machine
end

section
/-! SUPPORT. The COMPRESS command (43_rle_compressor.md R180): its checks in order, and what it produces. -/

namespace Sys2Proof.Machine

theorem exec_compress (s : State) : exec .compress s = .next (s.complete false (compressResult s)) := rfl

/-- IN_LEN has 25 bits (10_state.md R35), so its word is exact. -/
theorem sat32_inLen (s : State) : sat32 s.inLen.toNat = BitVec.ofNat 32 s.inLen.toNat := by
  have := s.inLen.isLt
  rw [sat32, Nat.min_eq_left (by omega)]

@[simp] theorem length_inString (s : State) (n : Nat) : (s.inString n).length = n := by simp [State.inString]

theorem inString_ne_nil (s : State) {n : Nat} (h : n ≠ 0) : s.inString n ≠ [] :=
  List.ne_nil_of_length_pos (by rw [length_inString]; exact Nat.pos_of_ne_zero h)

theorem bpr_eq (w : Nat) : bpr w = (w + 7) / 8 := rfl

/-- BYTES_PER_ROW and TOTAL_BYTES of the text in IN, `b` bytes a row (43_rle_compressor.md R182). -/
def rowEffects (s : State) (b : Nat) : List Effect :=
  [.bytesPerRow b, .totalBytes (b * (s.inLen.toNat / (2 * b + 1)))]

/-! ### The checks in order -/

theorem compressResult_of_absent {s : State} (hin : s.inSize.toNat < s.inLen.toNat) :
    compressResult s = .error .invalidInput (BitVec.ofNat 32 s.inLen.toNat) := by
  rw [compressResult, withInput_absent hin, sat32_inLen]

theorem compressResult_of_degenerate {s : State} (hin : s.inLen.toNat ≤ s.inSize.toNat)
    (h : bpr s.width.toNat = 0 ∨ s.inLen.toNat = 0) : compressResult s = .error .degenerateRaster 0 := by
  rw [compressResult, withInput_fits hin]
  exact if_pos (by rwa [length_inString])

section
variable {s : State} {b : Nat} (hin : s.inLen.toNat ≤ s.inSize.toNat) (hwidth : bpr s.width.toNat = b) (hb : b ≠ 0)
  (hn : s.inLen.toNat ≠ 0)
include hin hwidth hb hn

theorem compressResult_of_fault {e : Nat} (hfault : hexTextFault (s.inString s.inLen.toNat) b = some e) :
    compressResult s = .error .invalidEncoding (BitVec.ofNat 32 e) := by
  simp [compressResult, withInput_fits hin, hwidth, hb, inString_ne_nil s hn, hfault]

theorem compressResult_of_accepted (hfault : hexTextFault (s.inString s.inLen.toNat) b = none) :
    compressResult s = emitOut s (zplCompress (s.inString s.inLen.toNat) b) (rowEffects s b) := by
  simp [compressResult, withInput_fits hin, hwidth, hb, inString_ne_nil s hn, hfault, rowEffects]

end

/-! ### What it produces -/

/-- The rows' bytes are fewer than the text's characters, so the size results are exact in their registers. -/
theorem complete_emitOut_rowEffects {s : State} {b : Nat} {p : Str} (hwidth : bpr s.width.toNat = b)
    (h : p.length ≤ s.outSize.toNat) (keepsOut : Bool) :
    let u := s.complete keepsOut (emitOut s p (rowEffects s b))
    Produced p s u ∧ u.bytesPerRow.toNat = b ∧ u.totalBytes.toNat = b * (s.inLen.toNat / (2 * b + 1)) ∧
      u.crc = s.crc := by
  refine ⟨complete_emit_produced (by simp [rowEffects]) h, ?_⟩
  have hrows : b * (s.inLen.toNat / (2 * b + 1)) ≤ s.inLen.toNat :=
    (Nat.mul_le_mul_right _ (by omega)).trans (Nat.mul_div_le _ _)
  have hword : s.inLen.toNat < 2 ^ 32 := s.inLen.isLt.trans (by decide)
  simp only [emitOut_fits h, rowEffects, List.cons_append, List.nil_append, State.complete_ok, State.applyAll_cons,
    State.applyAll_nil, State.finish_bytesPerRow, State.finish_totalBytes, State.finish_crc,
    State.apply_bytesPerRow_bytesPerRow, State.apply_totalBytes_bytesPerRow, State.apply_totalBytes_totalBytes,
    State.apply_out_crc, State.apply_outLen_crc, State.apply_bytesPerRow_crc, State.apply_totalBytes_crc, and_true]
  constructor
  · rw [← hwidth]
    exact bpr_toNat_word s.width
  · exact Nat.mod_eq_of_lt (hrows.trans_lt hword)

/-- Settles O28, check by check. -/
theorem compressFollowsItsRule : Obligations.CompressFollowsItsRule := by
  refine ⟨rfl, fun s => ⟨fun hin hb hn hfault hout => ?produced, fun hin => ?absent, fun hin h => ?degenerate,
    fun e hin hb hn hfault => ?fault, fun hin hb hn hfault hout => ?overflow⟩⟩
  all_goals refine ⟨_, exec_compress s, ?_⟩
  case produced =>
    rw [compressResult_of_accepted hin (bpr_eq _) hb hn hfault]
    exact complete_emitOut_rowEffects (bpr_eq _) hout false
  case absent =>
    rw [compressResult_of_absent hin]
    exact State.complete_error_failedWith s false _ _
  case degenerate =>
    rw [compressResult_of_degenerate hin h]
    exact State.complete_error_failedWith s false _ _
  case fault =>
    rw [compressResult_of_fault hin (bpr_eq _) hb hn hfault]
    exact State.complete_error_failedWith s false _ _
  case overflow =>
    rw [compressResult_of_accepted hin (bpr_eq _) hb hn hfault, emitOut_overflows hout]
    exact State.complete_error_failedWith s false _ _

end Sys2Proof.Machine
end

section
/-! SUPPORT. Hex text to bytes (44_binary_framer.md R201, R202): the loop of R202 step by step, the bytes it converts to, and the
offset at which it faults. -/

namespace Sys2Proof.Machine

/-! ### The values of hex digits (44_binary_framer.md R202) -/

theorem hexVal_eq_none {c : Byte} (hdigit : c.toNat < 0x30 ∨ 0x39 < c.toNat) (hupper : c.toNat < 0x41 ∨ 0x46 < c.toNat)
    (hlower : c.toNat < 0x61 ∨ 0x66 < c.toNat) : hexVal c = none := by
  rw [hexVal, if_neg (by omega), if_neg (by omega), if_neg (by omega)]

/-! ### Newline stripping and pairing (44_binary_framer.md R201) -/

@[simp] theorem strip_nil : strip [] = [] := rfl

@[simp] theorem strip_newline_cons (t : Str) : strip (newline :: t) = strip t := rfl

theorem strip_cons {c : Byte} (hnl : c ≠ newline) (t : Str) : strip (c :: t) = c :: strip t := by simp [strip, hnl]

theorem strip_eq_nil_iff (t : Str) : strip t = [] ↔ ∀ c ∈ t, c = newline := by simp [strip]

theorem pairBytes_cons_cons {a b : Byte} {h l : BitVec 4} (ha : hexVal a = some h) (hb : hexVal b = some l) (t : Str) :
    pairBytes (a :: b :: t) = (pairBytes t).map fun bs => (h ++ l) :: bs := by
  rw [pairBytes, ha, hb]
  cases pairBytes t <;> rfl

theorem pairBytes_cons_of_bad {a : Byte} (ha : hexVal a = none) (t : Str) : pairBytes (a :: t) = none := by
  cases t with
  | nil => rfl
  | cons b t => rw [pairBytes, ha]

theorem pairBytes_cons_cons_of_bad (a : Byte) {b : Byte} (hb : hexVal b = none) (t : Str) :
    pairBytes (a :: b :: t) = none := by
  rw [pairBytes, hb]
  cases hexVal a <;> rfl

/-! ### One character of the loop (44_binary_framer.md R202) -/

theorem hexToBytesFrom_newline (i : Nat) (hi : Option (BitVec 4)) (d : Nat) (t : Str) :
    hexToBytesFrom i hi d (newline :: t) = hexToBytesFrom (i + 1) hi d t := by
  rw [hexToBytesFrom, if_pos rfl]

theorem hexToBytesFrom_bad {c : Byte} (hnl : c ≠ newline) (hc : hexVal c = none) (i : Nat) (hi : Option (BitVec 4)) (d : Nat)
    (t : Str) : hexToBytesFrom i hi d (c :: t) = .fault i := by
  rw [hexToBytesFrom, if_neg hnl, hc]

theorem hexToBytesFrom_high {c : Byte} {v : BitVec 4} (hnl : c ≠ newline) (hc : hexVal c = some v) (i d : Nat) (t : Str) :
    hexToBytesFrom i none d (c :: t) = hexToBytesFrom (i + 1) (some v) i t := by
  rw [hexToBytesFrom, if_neg hnl, hc]

theorem hexToBytesFrom_low {c : Byte} {v : BitVec 4} (hnl : c ≠ newline) (hc : hexVal c = some v) (h : BitVec 4) (i d : Nat)
    (t : Str) : hexToBytesFrom i (some h) d (c :: t) = consByte (h ++ v) (hexToBytesFrom (i + 1) none i t) := by
  rw [hexToBytesFrom, if_neg hnl, hc]

theorem consByte_eq_bytes_iff (x : Byte) (r : HexBytes) (b : Str) :
    consByte x r = .bytes b ↔ ∃ bs, r = .bytes bs ∧ x :: bs = b := by
  cases r <;> simp [consByte]

theorem consByte_eq_fault_iff (x : Byte) (r : HexBytes) (e : Nat) : consByte x r = .fault e ↔ r = .fault e := by
  cases r <;> simp [consByte]

/-! ### The bytes it converts to -/

/-- The pending nibble of the loop counts as the digit `a` it was read from. -/
theorem hexToBytesFrom_eq_bytes_iff (t : Str) (i d : Nat) (b : Str) :
    (hexToBytesFrom i none d t = .bytes b ↔ pairBytes (strip t) = some b) ∧
    ∀ (a : Byte) (h : BitVec 4), hexVal a = some h →
      (hexToBytesFrom i (some h) d t = .bytes b ↔ pairBytes (a :: strip t) = some b) := by
  induction t generalizing i d b with
  | nil => simp [hexToBytesFrom, pairBytes]
  | cons c t ih =>
    by_cases hnl : c = newline
    · subst hnl
      simpa only [hexToBytesFrom_newline, strip_newline_cons] using ih (i + 1) d b
    · rw [strip_cons hnl]
      cases hc : hexVal c with
      | none => simp [hexToBytesFrom_bad hnl hc, pairBytes_cons_of_bad hc, pairBytes_cons_cons_of_bad _ hc]
      | some v =>
        refine ⟨?_, fun a h ha => ?_⟩
        · rw [hexToBytesFrom_high hnl hc]
          exact (ih (i + 1) i b).2 c v hc
        · rw [hexToBytesFrom_low hnl hc, consByte_eq_bytes_iff, pairBytes_cons_cons ha hc, Option.map_eq_some_iff]
          exact exists_congr fun bs => and_congr_left' (ih (i + 1) i bs).1

/-- Settles O52: the loop from its start, with no nibble pending. -/
theorem hexToBytesIsStripThenPair : Obligations.HexToBytesIsStripThenPair :=
  ⟨fun t b => (hexToBytesFrom_eq_bytes_iff t 0 0 b).1, by decide, by decide, by decide, fun _ => hexVal_eq_none⟩

/-! ### The offset at which it faults -/

/-- The characters the loop reads on past. -/
def IsHexOrNewline (c : Byte) : Prop := c = newline ∨ (hexVal c).isSome = true

/-- The first character of the text that is neither a hex digit nor a newline stands at offset `k`. -/
def FirstBadAt (t : Str) (k : Nat) : Prop :=
  ∃ h : k < t.length, hexVal t[k] = none ∧ t[k] ≠ newline ∧ ∀ c ∈ t.take k, IsHexOrNewline c

/-- Only newlines follow the character at offset `k`, which is not one. -/
def LastDigitAt (t : Str) (k : Nat) : Prop := ∃ h : k < t.length, t[k] ≠ newline ∧ ∀ c ∈ t.drop (k + 1), c = newline

theorem firstBadAt_zero {c : Byte} (hnl : c ≠ newline) (hc : hexVal c = none) (t : Str) : FirstBadAt (c :: t) 0 :=
  ⟨Nat.succ_pos _, hc, hnl, by simp⟩

theorem FirstBadAt.cons {c : Byte} {t : Str} {k : Nat} (hc : IsHexOrNewline c) (h : FirstBadAt t k) :
    FirstBadAt (c :: t) (k + 1) := by
  obtain ⟨hk, hbad, hnl, hbefore⟩ := h
  exact ⟨Nat.succ_lt_succ hk, hbad, hnl, List.forall_mem_cons.2 ⟨hc, hbefore⟩⟩

theorem lastDigitAt_zero {c : Byte} {t : Str} (hnl : c ≠ newline) (ht : ∀ c ∈ t, c = newline) : LastDigitAt (c :: t) 0 :=
  ⟨Nat.succ_pos _, hnl, ht⟩

theorem LastDigitAt.cons {t : Str} {k : Nat} (c : Byte) (h : LastDigitAt t k) : LastDigitAt (c :: t) (k + 1) := by
  obtain ⟨hk, hnl, hafter⟩ := h
  exact ⟨Nat.succ_lt_succ hk, hnl, hafter⟩

/-- From offset `i` on, `e` is where the text's last digit stands; where the text has none it is `d`, the last one before it. -/
def IsLastDigit (i d : Nat) (t : Str) (e : Nat) : Prop :=
  e = d ∧ (∀ c ∈ t, c = newline) ∨ ∃ k, e = i + k ∧ LastDigitAt t k

theorem IsLastDigit.newline_cons {i d e : Nat} {t : Str} (h : IsLastDigit (i + 1) d t e) :
    IsLastDigit i d (newline :: t) e := by
  obtain ⟨rfl, hnone⟩ | ⟨k, rfl, hk⟩ := h
  · exact .inl ⟨rfl, List.forall_mem_cons.2 ⟨rfl, hnone⟩⟩
  · exact .inr ⟨k + 1, Nat.add_right_comm i 1 k, hk.cons newline⟩

theorem IsLastDigit.digit_cons {i e : Nat} {c : Byte} {t : Str} (hnl : c ≠ newline) (h : IsLastDigit (i + 1) i t e) (d : Nat) :
    IsLastDigit i d (c :: t) e := by
  obtain ⟨rfl, hnone⟩ | ⟨k, rfl, hk⟩ := h
  · exact .inr ⟨0, rfl, lastDigitAt_zero hnl hnone⟩
  · exact .inr ⟨k + 1, Nat.add_right_comm i 1 k, hk.cons c⟩

/-- The loop at a hex digit: a fault is the rest's, with a nibble pending where there was none. -/
theorem hexToBytesFrom_digit_fault {c : Byte} {v : BitVec 4} {i d e : Nat} {hi : Option (BitVec 4)} {t : Str}
    (hnl : c ≠ newline) (hc : hexVal c = some v) (h : hexToBytesFrom i hi d (c :: t) = .fault e) :
    ∃ hi' : Option (BitVec 4), hi'.isSome = !hi.isSome ∧ hexToBytesFrom (i + 1) hi' i t = .fault e := by
  cases hi with
  | none => exact ⟨some v, rfl, hexToBytesFrom_high hnl hc i d t ▸ h⟩
  | some w => exact ⟨none, rfl, (consByte_eq_fault_iff _ _ _).1 (hexToBytesFrom_low hnl hc w i d t ▸ h)⟩

/-- The loop faults at the first bad character, or at the end of an odd number of digits, the pending one among them. -/
theorem hexToBytesFrom_fault {t : Str} {i d e : Nat} {hi : Option (BitVec 4)} (h : hexToBytesFrom i hi d t = .fault e) :
    (∃ k, e = i + k ∧ FirstBadAt t k) ∨
    (∀ c ∈ t, IsHexOrNewline c) ∧ (hi.isSome.toNat + (strip t).length) % 2 = 1 ∧ IsLastDigit i d t e := by
  induction t generalizing i d hi with
  | nil =>
    cases hi with
    | none => cases h
    | some v => exact .inr ⟨by simp, rfl, .inl ⟨(HexBytes.fault.inj h).symm, by simp⟩⟩
  | cons c t ih =>
    by_cases hnl : c = newline
    · subst hnl
      obtain ⟨k, rfl, hbad⟩ | ⟨hall, hodd, hlast⟩ := ih (hexToBytesFrom_newline i hi d t ▸ h)
      · exact .inl ⟨k + 1, Nat.add_right_comm i 1 k, hbad.cons (.inl rfl)⟩
      · exact .inr ⟨List.forall_mem_cons.2 ⟨.inl rfl, hall⟩, hodd, hlast.newline_cons⟩
    · cases hc : hexVal c with
      | none =>
        obtain rfl := HexBytes.fault.inj (hexToBytesFrom_bad hnl hc i hi d t ▸ h)
        exact .inl ⟨0, rfl, firstBadAt_zero hnl hc t⟩
      | some v =>
        have hdigit : IsHexOrNewline c := .inr (by rw [hc]; rfl)
        obtain ⟨hi', hflip, hrest⟩ := hexToBytesFrom_digit_fault hnl hc h
        obtain ⟨k, rfl, hbad⟩ | ⟨hall, hodd, hlast⟩ := ih hrest
        · exact .inl ⟨k + 1, Nat.add_right_comm i 1 k, hbad.cons hdigit⟩
        · refine .inr ⟨List.forall_mem_cons.2 ⟨hdigit, hall⟩, ?_, hlast.digit_cons hnl d⟩
          have hpending : (!hi.isSome).toNat + hi.isSome.toNat = 1 := by cases hi <;> rfl
          rw [hflip] at hodd
          rw [strip_cons hnl, List.length_cons]
          omega

/-- Settles O53: from the loop's start no nibble is pending, so an odd number of digits has a last one in the text. -/
theorem hexFaultOffset : Obligations.HexFaultOffset := by
  intro t e h
  obtain ⟨k, rfl, hk, hbad, hnl, hbefore⟩ | ⟨hall, hodd, hlast⟩ := hexToBytesFrom_fault h
  · simp only [Nat.zero_add]
    exact ⟨hk, .inl ⟨hbad, hnl, hbefore⟩⟩
  · simp only [Option.isSome_none, Bool.toNat_false, Nat.zero_add] at hodd
    obtain ⟨-, hnone⟩ | ⟨k, rfl, hk, hnl, hafter⟩ := hlast
    · rw [(strip_eq_nil_iff t).2 hnone] at hodd
      cases hodd
    · simp only [Nat.zero_add]
      exact ⟨hk, .inr ⟨hall, hnl, hafter, hodd⟩⟩

end Sys2Proof.Machine
end

section
/-! SUPPORT. Base64 text (44_binary_framer.md R220 to R222) and the frame around it (R225, R226). A Base64 text is alphabet
characters and then at most two pads, which gives its alphabet, the place of its pads, and that it holds no colon. -/

namespace Sys2Proof.Machine

/-! ### Base64 text (44_binary_framer.md R220 to R222) -/

theorem base64Index_base64Char : ∀ v : BitVec 6, base64Index (base64Char v) = some v := by decide

theorem base64Char_ne_pad : ∀ v : BitVec 6, base64Char v ≠ pad := by decide

/-- R222: four characters for each group of three bytes, a last short group included. -/
theorem length_base64 (d : Str) : (base64 d).length = 4 * ((d.length + 2) / 3) := by
  induction d using base64.induct with
  | case1 a b c rest ih =>
    simp only [base64, List.length_cons, ih]
    omega
  | case2 a b => simp [base64]
  | case3 a => simp [base64]
  | case4 => simp [base64]

/-- The first `n` sextets of a group, from bit 18 down (R220). -/
def sextets (v : BitVec 24) (n : Nat) : List (BitVec 6) := (List.range n).map fun k => v.extractLsb' (18 - 6 * k) 6

theorem exists_base64_eq (d : Str) :
    ∃ (vs : List (BitVec 6)) (k : Nat), k ≤ 2 ∧ base64 d = vs.map base64Char ++ List.replicate k pad := by
  induction d using base64.induct with
  | case1 a b c rest ih =>
    obtain ⟨vs, k, hk, hrest⟩ := ih
    refine ⟨sextets (groupValue a b c) 4 ++ vs, k, hk, ?_⟩
    rw [base64, hrest, List.map_append, List.append_assoc]
    rfl
  | case2 a b => exact ⟨sextets (groupValue a b 0) 3, 1, by decide, by rw [base64]; rfl⟩
  | case3 a => exact ⟨sextets (groupValue a 0 0) 2, 2, by decide, by rw [base64]; rfl⟩
  | case4 => exact ⟨[], 0, by decide, by rw [base64]; rfl⟩

theorem inBase64Alphabet_of_mem {d : Str} {c : Byte} (hc : c ∈ base64 d) : InBase64Alphabet c := by
  obtain ⟨vs, k, -, heq⟩ := exists_base64_eq d
  rw [heq, List.mem_append] at hc
  obtain hchar | hpad := hc
  · obtain ⟨v, -, rfl⟩ := List.mem_map.1 hchar
    exact .inl (by rw [base64Index_base64Char]; rfl)
  · exact .inr (List.eq_of_mem_replicate hpad)

theorem InBase64Alphabet.ne_colon {c : Byte} (h : InBase64Alphabet c) : c ≠ colon := by
  rintro rfl
  obtain hindex | hpad := h
  · exact absurd hindex (by decide)
  · exact absurd hpad (by decide)

/-- All but the last two characters are among those before the pads. -/
theorem ne_pad_of_mem_take_base64 {d : Str} {c : Byte} (hc : c ∈ (base64 d).take ((base64 d).length - 2)) : c ≠ pad := by
  obtain ⟨vs, k, hk, heq⟩ := exists_base64_eq d
  have hlen : (base64 d).length = (vs.map base64Char).length + k := by rw [heq, List.length_append, List.length_replicate]
  rw [hlen, heq, List.take_append_of_le_length (by omega)] at hc
  obtain ⟨v, -, rfl⟩ := List.mem_map.1 (List.mem_of_mem_take hc)
  exact base64Char_ne_pad v

/-- Settles O54, from the length of a text and its form: alphabet characters, then pads. -/
theorem base64Shape : Obligations.Base64Shape := fun d =>
  ⟨length_base64 d, fun _ => inBase64Alphabet_of_mem, fun _ => ne_pad_of_mem_take_base64⟩

/-! ### The four digits of the checksum (44_binary_framer.md R225) -/

theorem hexU_four (c : BitVec 16) : hexU c.toNat 4 = hexOfBytes [c.extractLsb' 8 8, c.extractLsb' 0 8] := by
  have hlt := c.isLt
  simp only [hexU, hexOfBytes, List.nil_append, List.cons_append, BitVec.extractLsb'_toNat,
    Nat.shiftRight_eq_div_pow, List.cons.injEq, and_true]
  refine ⟨?_, ?_, ?_, ?_⟩ <;> congr 1 <;> omega

theorem pairBytes_hexOfBytes (bs : Str) : pairBytes (hexOfBytes bs) = some bs := by
  induction bs with
  | nil => rfl
  | cons b bs ih =>
    have hdigit (n : Nat) := hexVal_hexDigit (n % 16) (Nat.mod_lt n (by decide))
    rw [hexOfBytes_cons, pairBytes_cons_cons (hdigit _) (hdigit _), ih, nibbles_append]
    rfl

/-! ### The frame (44_binary_framer.md R225, R226) -/

/-- `":B64:"` or `":Z64:"`, what stands before the Base64 text. -/
def frameHead (z : Bool) : Str := colon :: frameTag z ++ [colon]

theorem frameText_eq (z : Bool) (b : Str) : frameText z b =
    frameHead z ++ (b ++ colon :: hexOfBytes [(crc16 b).extractLsb' 8 8, (crc16 b).extractLsb' 0 8]) := by
  rw [← hexU_four]
  rfl

@[simp] theorem length_frameHead (z : Bool) : (frameHead z).length = 5 := rfl

@[simp] theorem length_frameText (z : Bool) (b : Str) : (frameText z b).length = b.length + 10 := by
  simp only [frameText_eq, List.length_append, length_frameHead, List.length_cons, length_hexOfBytes, List.length_nil]
  omega

theorem take_frameText (z : Bool) (b : Str) : (frameText z b).take 5 = frameHead z := by
  rw [frameText_eq]
  exact List.take_left' rfl

theorem drop_frameText (z : Bool) (b : Str) : (frameText z b).drop 5 =
    b ++ colon :: hexOfBytes [(crc16 b).extractLsb' 8 8, (crc16 b).extractLsb' 0 8] := by
  rw [frameText_eq]
  exact List.drop_left' rfl

theorem drop_frameText_checksum (z : Bool) (b : Str) : (frameText z b).drop (b.length + 6) =
    hexOfBytes [(crc16 b).extractLsb' 8 8, (crc16 b).extractLsb' 0 8] := by
  have hsplit : b.length + 6 = 5 + (b.length + 1) := by omega
  rw [hsplit, ← List.drop_drop, drop_frameText, List.drop_length_add_append]
  rfl

theorem count_colon_frameHead (z : Bool) : (frameHead z).count colon = 2 := by cases z <;> rfl

/-- The tag and the checksum hold no colon, so the frame adds three to those of its text. -/
theorem count_colon_frameText (z : Bool) (b : Str) : (frameText z b).count colon = b.count colon + 3 := by
  have hchecksum : (hexOfBytes [(crc16 b).extractLsb' 8 8, (crc16 b).extractLsb' 0 8]).count colon = 0 :=
    List.count_eq_zero.2 fun h => ne_of_isUpperHex (isUpperHex_of_mem_hexOfBytes h) (by decide) rfl
  rw [frameText_eq, List.count_append, List.count_append, List.count_cons_self, hchecksum, count_colon_frameHead]
  omega

/-- Settles O57: each part of the frame in its place. -/
theorem frameShape : Obligations.FrameShape := fun z d => by
  refine ⟨length_frameText z _, take_frameText z _, ?_, ?_, ?_, ?_⟩
  · rw [drop_frameText]
    exact List.take_left' rfl
  · have hnone : (base64 d).count colon = 0 :=
      List.count_eq_zero.2 fun h => (inBase64Alphabet_of_mem h).ne_colon rfl
    rw [count_colon_frameText, hnone]
  · rw [drop_frameText_checksum]
    exact fun _ => isUpperHex_of_mem_hexOfBytes
  · rw [drop_frameText_checksum, pairBytes_hexOfBytes]

end Sys2Proof.Machine
end

section
/-! SUPPORT. The commands of the framer (44_binary_framer.md R230 to R232): FRAME_B64, FRAME_Z64 and BASE64, their checks in order
and what they produce. -/

namespace Sys2Proof.Machine

theorem exec_frameB64 (s : State) : exec .frameB64 s = .next (s.complete false (frameCommandResult s false)) := rfl

theorem exec_frameZ64 (s : State) : exec .frameZ64 s = .next (s.complete false (frameCommandResult s true)) := rfl

theorem exec_base64 (s : State) : exec .base64 s = .next (s.complete false (base64Result s)) := rfl

/-! ### The bytes of a frame (44_binary_framer.md R211, R212) -/

theorem payloadBytes_false (s : State) (raw : Str) : payloadBytes s false raw = .bytes raw := rfl

section
variable {s : State} {z : Bool} {raw : Str}

theorem frameResult_of_bytes {d : Str} (h : payloadBytes s z raw = .bytes d) (more : List Effect) :
    frameResult s z raw more = emitOut s (frameText z (base64 d)) (more ++ [.crc (crc16 (base64 d))]) := by
  rw [frameResult, h]

theorem frameResult_of_failure (h : payloadBytes s z raw = .failure) (more : List Effect) :
    frameResult s z raw more = .error .deflateError 0 := by
  rw [frameResult, h]

theorem frameResult_of_noAnswer (h : payloadBytes s z raw = .noAnswer) (more : List Effect) :
    frameResult s z raw more = .waiting raw := by
  rw [frameResult, h]

end

/-! ### The checks of a frame command in order (44_binary_framer.md R230) -/

section
variable {s : State} {z : Bool} {raw d : Str}

theorem frameCommandResult_of_absent (hin : s.inSize.toNat < s.inLen.toNat) :
    frameCommandResult s z = .error .invalidInput (BitVec.ofNat 32 s.inLen.toNat) := by
  rw [frameCommandResult, withInput_absent hin, sat32_inLen]

theorem frameCommandResult_of_fault {e : Nat} (hin : s.inLen.toNat ≤ s.inSize.toNat)
    (hhex : hexToBytes (s.inString s.inLen.toNat) = .fault e) :
    frameCommandResult s z = .error .invalidEncoding (BitVec.ofNat 32 e) := by
  rw [frameCommandResult, withInput_fits hin, hhex]

theorem frameCommandResult_of_bytes (hin : s.inLen.toNat ≤ s.inSize.toNat)
    (hhex : hexToBytes (s.inString s.inLen.toNat) = .bytes raw) : frameCommandResult s z = frameResult s z raw [] := by
  rw [frameCommandResult, withInput_fits hin, hhex]

theorem frameCommand_invalidInput (hin : s.inSize.toNat < s.inLen.toNat) :
    FailedWith .invalidInput (BitVec.ofNat 32 s.inLen.toNat) s (s.complete false (frameCommandResult s z)) := by
  rw [frameCommandResult_of_absent hin]
  exact State.complete_error_failedWith s false _ _

theorem frameCommand_invalidEncoding {e : Nat} (hin : s.inLen.toNat ≤ s.inSize.toNat)
    (hhex : hexToBytes (s.inString s.inLen.toNat) = .fault e) :
    FailedWith .invalidEncoding (BitVec.ofNat 32 e) s (s.complete false (frameCommandResult s z)) := by
  rw [frameCommandResult_of_fault hin hhex]
  exact State.complete_error_failedWith s false _ _

/-- The frame of the payload bytes, CRC over its Base64 text alone, and the size results as they were. -/
theorem frameCommand_produced (hin : s.inLen.toNat ≤ s.inSize.toNat)
    (hhex : hexToBytes (s.inString s.inLen.toNat) = .bytes raw) (hpayload : payloadBytes s z raw = .bytes d)
    (hout : (frameText z (base64 d)).length ≤ s.outSize.toNat) :
    let t := s.complete false (frameCommandResult s z)
    Produced (frameText z (base64 d)) s t ∧ t.crc = crc16 (base64 d) ∧ t.bytesPerRow = s.bytesPerRow ∧
      t.totalBytes = s.totalBytes := by
  rw [frameCommandResult_of_bytes hin hhex, frameResult_of_bytes hpayload]
  refine ⟨complete_emit_produced (by simp) hout, ?_⟩
  rw [emitOut_fits hout]
  exact ⟨rfl, rfl, rfl⟩

theorem frameCommand_outputOverflow (hin : s.inLen.toNat ≤ s.inSize.toNat)
    (hhex : hexToBytes (s.inString s.inLen.toNat) = .bytes raw) (hpayload : payloadBytes s z raw = .bytes d)
    (hout : s.outSize.toNat < (frameText z (base64 d)).length) :
    FailedWith .outputOverflow (sat32 (frameText z (base64 d)).length) s (s.complete false (frameCommandResult s z)) := by
  rw [frameCommandResult_of_bytes hin hhex, frameResult_of_bytes hpayload, emitOut_overflows hout]
  exact State.complete_error_failedWith s false _ _

end

/-- Settles O29, check by check: the payload of FRAME_B64 is the converted bytes themselves. -/
theorem frameB64FollowsItsRule : Obligations.FrameB64FollowsItsRule :=
  ⟨rfl, fun s => ⟨
    fun raw hin hhex hout => ⟨_, exec_frameB64 s, frameCommand_produced hin hhex (payloadBytes_false s raw) hout⟩,
    fun hin => ⟨_, exec_frameB64 s, frameCommand_invalidInput hin⟩,
    fun _ hin hhex => ⟨_, exec_frameB64 s, frameCommand_invalidEncoding hin hhex⟩,
    fun raw hin hhex hout => ⟨_, exec_frameB64 s, frameCommand_outputOverflow hin hhex (payloadBytes_false s raw) hout⟩⟩⟩

/-- Settles O30, check by check: the payload of FRAME_Z64 is what the engine answers. -/
theorem frameZ64FollowsItsRule : Obligations.FrameZ64FollowsItsRule := by
  refine ⟨rfl, fun s => ⟨fun raw d hin hhex hanswer hout => ?produced, fun hin => ?absent, fun e hin hhex => ?fault,
    fun raw hin hhex hanswer => ?failure, fun raw d hin hhex hanswer hout => ?overflow,
    fun raw hin hhex hanswer => ?noAnswer⟩⟩
  case produced => exact ⟨_, exec_frameZ64 s, frameCommand_produced hin hhex hanswer hout⟩
  case absent => exact ⟨_, exec_frameZ64 s, frameCommand_invalidInput hin⟩
  case fault => exact ⟨_, exec_frameZ64 s, frameCommand_invalidEncoding hin hhex⟩
  case failure =>
    refine ⟨_, exec_frameZ64 s, ?_⟩
    rw [frameCommandResult_of_bytes hin hhex, frameResult_of_failure (z := true) hanswer]
    exact State.complete_error_failedWith s false _ _
  case overflow => exact ⟨_, exec_frameZ64 s, frameCommand_outputOverflow hin hhex hanswer hout⟩
  case noAnswer =>
    rw [exec_frameZ64, frameCommandResult_of_bytes hin hhex, frameResult_of_noAnswer (z := true) hanswer]
    rfl

/-! ### BASE64 (44_binary_framer.md R232) -/

theorem base64Result_of_absent {s : State} (hin : s.inSize.toNat < s.inLen.toNat) :
    base64Result s = .error .invalidInput (BitVec.ofNat 32 s.inLen.toNat) := by
  rw [base64Result, withInput_absent hin, sat32_inLen]

theorem base64Result_of_fits {s : State} (hin : s.inLen.toNat ≤ s.inSize.toNat) :
    base64Result s = emitOut s (base64 (s.inString s.inLen.toNat)) [] := by
  rw [base64Result, withInput_fits hin]

/-- Settles O31, check by check: the input region and then the size of OUT. -/
theorem base64FollowsItsRule : Obligations.Base64FollowsItsRule := by
  refine ⟨rfl, fun s => ⟨fun hin hout => ?produced, fun hin => ?absent, fun hin hout => ?overflow⟩⟩
  all_goals refine ⟨_, exec_base64 s, ?_⟩
  case produced =>
    rw [base64Result_of_fits hin]
    refine ⟨complete_emit_produced (by simp) hout, ?_⟩
    rw [emitOut_fits hout]
    exact ⟨rfl, rfl, rfl⟩
  case absent =>
    rw [base64Result_of_absent hin]
    exact State.complete_error_failedWith s false _ _
  case overflow =>
    rw [base64Result_of_fits hin, emitOut_overflows hout]
    exact State.complete_error_failedWith s false _ _

end Sys2Proof.Machine
end

section
/-! SUPPORT. The CRC-16 generator and the CRC16 command (45_crc16.md): one bit of the generator is linear in its register and
its data bit together, so the whole generator is linear; and the command's one check and what it writes. -/

namespace Sys2Proof.Machine

/-! ### The generator is linear (45_crc16.md R244) -/

/-- What the bit fed back adds to the shifted register (45_crc16.md R240). -/
def crcFeedback (bit : Bool) : BitVec 16 := if bit then 0x1021 else 0

theorem crcFeedback_xor : ∀ x y : Bool, crcFeedback (x ^^ y) = crcFeedback x ^^^ crcFeedback y := by decide

theorem crcBit_eq_shift_xor_feedback (c : BitVec 16) (x : Bool) :
    crcBit c x = (c <<< 1) ^^^ crcFeedback (c.getLsbD 15 ^^ x) := by
  rw [crcBit]
  cases c.getLsbD 15 ^^ x with
  | false => exact BitVec.xor_zero.symm
  | true => rfl

theorem crcBit_xor (c c' : BitVec 16) (x y : Bool) : crcBit (c ^^^ c') (x ^^ y) = crcBit c x ^^^ crcBit c' y := by
  have hfed : ((c ^^^ c').getLsbD 15 ^^ (x ^^ y)) = ((c.getLsbD 15 ^^ x) ^^ (c'.getLsbD 15 ^^ y)) := by
    rw [BitVec.getLsbD_xor, Bool.xor_assoc, Bool.xor_assoc, Bool.xor_left_comm x]
  simp only [crcBit_eq_shift_xor_feedback, hfed, crcFeedback_xor, BitVec.shiftLeft_xor_distrib]
  ac_rfl

theorem crcBits_xor (c c' : BitVec 16) (a b : Byte) (n : Nat) :
    crcBits (c ^^^ c') (a ^^^ b) n = crcBits c a n ^^^ crcBits c' b n := by
  induction n generalizing c c' with
  | zero => rfl
  | succ n ih => rw [crcBits, crcBits, crcBits, BitVec.getLsbD_xor, crcBit_xor, ih]

/-- The generator over `d` with `c` in its register at the start. -/
def crcFrom (c : BitVec 16) (d : Str) : BitVec 16 := d.foldl (fun crc b => crcBits crc b 8) c

theorem crc16_eq_crcFrom (d : Str) : crc16 d = crcFrom 0 d := rfl

theorem crcFrom_cons (c : BitVec 16) (b : Byte) (d : Str) : crcFrom c (b :: d) = crcFrom (crcBits c b 8) d := rfl

theorem crcFrom_xor (c c' : BitVec 16) {d e : Str} (h : d.length = e.length) :
    crcFrom (c ^^^ c') (List.zipWith (· ^^^ ·) d e) = crcFrom c d ^^^ crcFrom c' e := by
  induction d generalizing c c' e with
  | nil =>
    obtain rfl := List.eq_nil_of_length_eq_zero h.symm
    rfl
  | cons a d ih =>
    cases e with
    | nil => cases h
    | cons b e =>
      rw [List.zipWith_cons_cons, crcFrom_cons, crcFrom_cons, crcFrom_cons, crcBits_xor, ih _ _ (Nat.succ.inj h)]

theorem crc16_xor {d e : Str} (h : d.length = e.length) :
    crc16 (List.zipWith (· ^^^ ·) d e) = crc16 d ^^^ crc16 e := by
  rw [crc16_eq_crcFrom, crc16_eq_crcFrom, crc16_eq_crcFrom, ← crcFrom_xor 0 0 h, BitVec.xor_self]
  rfl

/-- Zeros are the XOR of zeros with themselves, so by linearity their CRC is a value XORed with itself. -/
theorem crc16_zeros (n : Nat) : crc16 (List.replicate n 0) = 0 := by
  have hself : List.zipWith (· ^^^ ·) (List.replicate n (0 : Byte)) (List.replicate n 0) = List.replicate n 0 := by simp
  rw [← hself, crc16_xor rfl, BitVec.xor_self]
  rfl

/-- The check value of `123456789` (45_crc16.md R243). -/
theorem crc16_checkValue : crc16 [0x31, 0x32, 0x33, 0x34, 0x35, 0x36, 0x37, 0x38, 0x39] = 0x31C3 := by
  simp [crc16, crcBits, crcBit]

/-- Settles O56: linearity, its consequence for zeros, and the check value. -/
theorem crcIsLinearWithItsCheckValue : Obligations.CrcIsLinearWithItsCheckValue :=
  ⟨fun _ _ => crc16_xor, crc16_zeros, crc16_checkValue⟩

/-! ### CRC16 (45_crc16.md R250) -/

theorem exec_crc16 (s : State) : exec .crc16 s = .next (s.complete true (crc16Result s)) := rfl

theorem crc16Result_of_absent {s : State} (hin : s.inSize.toNat < s.inLen.toNat) :
    crc16Result s = .error .invalidInput (BitVec.ofNat 32 s.inLen.toNat) := by
  rw [crc16Result, withInput_absent hin, sat32_inLen]

theorem crc16Result_of_fits {s : State} (hin : s.inLen.toNat ≤ s.inSize.toNat) :
    crc16Result s = .ok [.crc (crc16 (s.inString s.inLen.toNat)), .outLen 0] := by
  rw [crc16Result, withInput_fits hin]

theorem complete_crc16Result_sameOut (s : State) : SameOut s (s.complete true (crc16Result s)) :=
  complete_keeps_out (crc16Result_within s) (.inr rfl)

/-- Settles O32: the one check decides the outcome, and neither outcome writes OUT. -/
theorem crc16FollowsItsRule : Obligations.Crc16FollowsItsRule := by
  refine ⟨rfl, fun s => ⟨fun hin => ?computed, fun hin => ?absent⟩⟩
  all_goals
    refine ⟨_, exec_crc16 s, ?_⟩
    have hout := complete_crc16Result_sameOut s
  case computed =>
    rw [crc16Result_of_fits hin] at hout ⊢
    exact ⟨State.complete_ok_completed s true _, rfl, rfl, rfl, rfl, hout, State.complete_sameInputs s true _⟩
  case absent =>
    rw [crc16Result_of_absent hin] at hout ⊢
    exact ⟨State.complete_error_failedWith s true _ _, hout⟩

end Sys2Proof.Machine
end

section
/-! SUPPORT. Base64 decoding (46_encode_pipeline.md R266): a decoded group is the bytes of its 24-bit value, so decoding a Base64
text gives back its bytes. -/

namespace Sys2Proof.Machine

/-! ### One group (44_binary_framer.md R220 read backwards) -/

/-- Neighbouring sextets of a group's value put together are the bits of the value they cover. -/
theorem neighbouringSextets_append (v : BitVec 24) :
    v.extractLsb' 18 6 ++ v.extractLsb' 12 6 = v.extractLsb' 12 12 ∧
      v.extractLsb' 12 12 ++ v.extractLsb' 6 6 = v.extractLsb' 6 18 ∧ v.extractLsb' 6 18 ++ v.extractLsb' 0 6 = v := by
  refine ⟨BitVec.extractLsb'_append_extractLsb'_eq_extractLsb' rfl,
    BitVec.extractLsb'_append_extractLsb'_eq_extractLsb' rfl, ?_⟩
  exact (BitVec.extractLsb'_append_extractLsb'_eq_extractLsb' rfl).trans BitVec.extractLsb'_eq_self

/-- Bits of a field of a value are bits of the value. -/
theorem extractLsb'_of_field {n : Nat} (v : BitVec n) {start len lo k : Nat} (h : lo + k ≤ len) :
    (v.extractLsb' start len).extractLsb' lo k = v.extractLsb' (start + lo) k := by
  ext i hi
  have hfield : lo + i < len := by omega
  simp [hfield, Nat.add_assoc]

theorem ungroup_four (v : BitVec 24) : ungroup (sextet v 18) (sextet v 12) (sextet v 6) (sextet v 0) =
    some [v.extractLsb' 16 8, v.extractLsb' 8 8, v.extractLsb' 0 8] := by
  obtain ⟨htwo, hthree, hfour⟩ := neighbouringSextets_append v
  simp only [ungroup, sextet, base64Index_base64Char, base64Char_ne_pad, false_and, if_false, htwo, hthree, hfour]

theorem ungroup_three (v : BitVec 24) : ungroup (sextet v 18) (sextet v 12) (sextet v 6) pad =
    some [v.extractLsb' 16 8, v.extractLsb' 8 8] := by
  obtain ⟨htwo, hthree, -⟩ := neighbouringSextets_append v
  simp only [ungroup, sextet, base64Index_base64Char, base64Char_ne_pad, false_and, if_false, if_true, htwo, hthree]
  rw [extractLsb'_of_field v (by decide), extractLsb'_of_field v (by decide)]

theorem ungroup_two (v : BitVec 24) : ungroup (sextet v 18) (sextet v 12) pad pad = some [v.extractLsb' 16 8] := by
  obtain ⟨htwo, -, -⟩ := neighbouringSextets_append v
  simp only [ungroup, sextet, base64Index_base64Char, and_self, if_true, htwo]
  rw [extractLsb'_of_field v (by decide)]

theorem groupValue_bytes (a b c : Byte) : (groupValue a b c).extractLsb' 16 8 = a ∧
    (groupValue a b c).extractLsb' 8 8 = b ∧ (groupValue a b c).extractLsb' 0 8 = c := by
  refine ⟨?_, ?_, BitVec.extractLsb'_append_eq_right⟩
  · rw [groupValue, BitVec.extractLsb'_append_eq_of_le (by decide)]
    exact BitVec.extractLsb'_append_eq_left
  · rw [groupValue, BitVec.extractLsb'_append_eq_of_le (by decide)]
    exact BitVec.extractLsb'_append_eq_right

/-! ### A text, group by group -/

theorem unbase64_cons {a b c d : Byte} {g t rest : Str} (hg : ungroup a b c d = some g)
    (ht : unbase64 rest = some t) : unbase64 (a :: b :: c :: d :: rest) = some (g ++ t) := by
  rw [unbase64, hg, ht]

theorem unbase64_base64 (d : Str) : unbase64 (base64 d) = some d := by
  induction d using base64.induct with
  | case1 a b c rest ih =>
    obtain ⟨ha, hb, hc⟩ := groupValue_bytes a b c
    rw [base64, unbase64_cons (ungroup_four _) ih, ha, hb, hc]
    rfl
  | case2 a b =>
    obtain ⟨ha, hb, -⟩ := groupValue_bytes a b 0
    rw [base64, unbase64_cons (ungroup_three _) rfl, ha, hb]
    rfl
  | case3 a =>
    obtain ⟨ha, -, -⟩ := groupValue_bytes a 0 0
    rw [base64, unbase64_cons (ungroup_two _) rfl, ha]
    rfl
  | case4 => rfl

/-- Settles O55, by induction on the groups of the text. -/
theorem base64RoundTrips : Obligations.Base64RoundTrips := unbase64_base64

end Sys2Proof.Machine
end

section
/-! SUPPORT. ENCODE (46_encode_pipeline.md R260 to R265): what each encoding kind answers behind the pixel-region check, its errors
in order and what it produces. -/

namespace Sys2Proof.Machine

/-! ### The branch on CONFIG.ENC (46_encode_pipeline.md R261) -/

theorem exec_encode (s : State) : exec .encode s = .next (s.complete false (encodeResult s)) := rfl

/-- The encoding kind that frames the packed bytes: deflated (ENC = 2) or as they are (ENC = 1). -/
def framingKind (z : Bool) : EncKind := if z then .base64Deflate else .base64

section
variable {s : State}

theorem encodeResult_of_fourth (henc : s.enc = .fourth) : encodeResult s = .error .unsupportedEncodingKind 3 := by
  rw [encodeResult, henc]

theorem encodeResult_of_hex (henc : s.enc = .hexCompressed) : encodeResult s = withPixelRegion s (encodeHex s) := by
  rw [encodeResult, henc]

theorem encodeResult_of_framing {z : Bool} (henc : s.enc = framingKind z) :
    encodeResult s = withPixelRegion s (frameResult s z s.packedBytes (sizeEffects s)) := by
  cases z with
  | false => rw [encodeResult, show s.enc = .base64 from henc]
  | true => rw [encodeResult, show s.enc = .base64Deflate from henc]

/-- Every supported kind starts with the pixel-region check (46_encode_pipeline.md R260). -/
theorem encodeResult_of_absent (henc : s.enc ≠ .fourth) (hin : s.inSize.toNat < s.pixelBytes) :
    encodeResult s = .error .invalidInput (sat32 s.pixelBytes) := by
  cases hkind : s.enc with
  | fourth => exact absurd hkind henc
  | hexCompressed => rw [encodeResult_of_hex hkind, withPixelRegion_absent hin]
  | base64 => rw [encodeResult_of_framing (z := false) hkind, withPixelRegion_absent hin]
  | base64Deflate => rw [encodeResult_of_framing (z := true) hkind, withPixelRegion_absent hin]

theorem exec_encode_of_error {code : ErrCode} {info : Word} (h : encodeResult s = .error code info) :
    ∃ t, exec .encode s = .next t ∧ FailedWith code info s t := by
  refine ⟨_, exec_encode s, ?_⟩
  rw [h]
  exact State.complete_error_failedWith s false code info

end

/-- Settles O36: this kind is refused before every other check. -/
theorem encodeFourthKindIsUnsupported : Obligations.EncodeFourthKindIsUnsupported := fun _ henc =>
  exec_encode_of_error (encodeResult_of_fourth henc)

/-! ### ENC = 0, the compressed hex text (46_encode_pipeline.md R262) -/

section
variable {s : State}

theorem encodeHex_of_degenerate (h : bpr s.width.toNat = 0 ∨ s.height.toNat = 0) :
    encodeHex s = .error .degenerateRaster 0 := by
  rw [encodeHex, if_pos h]

theorem encodeHex_of_raster (hw : s.width.toNat ≠ 0) (hh : s.height.toNat ≠ 0) :
    encodeHex s = emitOut s (zplCompress s.hexText (bpr s.width.toNat)) (sizeEffects s) := by
  have hrow : bpr s.width.toNat ≠ 0 := by rw [bpr_eq]; omega
  rw [encodeHex, if_neg (not_or.2 ⟨hrow, hh⟩)]

/-- A raster without pixels needs no bytes of IN, so the pixel-region check lets it through. -/
theorem encodeResult_of_degenerate (henc : s.enc = .hexCompressed) (h : s.width.toNat = 0 ∨ s.height.toNat = 0) :
    encodeResult s = .error .degenerateRaster 0 := by
  have hpixels : s.pixelBytes = 0 := by
    obtain hw | hh := h
    · simp [State.pixelBytes, hw]
    · simp [State.pixelBytes, hh]
  rw [encodeResult_of_hex henc, withPixelRegion_fits (by omega)]
  exact encodeHex_of_degenerate (h.imp_left fun hw => by rw [hw]; rfl)

end

/-- Settles O33, check by check. -/
theorem encodeHexFollowsItsRule : Obligations.EncodeHexFollowsItsRule := by
  intro s henc
  have hresult (hin : s.pixelBytes ≤ s.inSize.toNat) (hw : s.width.toNat ≠ 0) (hh : s.height.toNat ≠ 0) :
      encodeResult s = emitOut s (zplCompress s.hexText (bpr s.width.toNat)) (sizeEffects s) := by
    rw [encodeResult_of_hex henc, withPixelRegion_fits hin, encodeHex_of_raster hw hh]
  refine ⟨fun hin hw hh hout => ?produced, fun hin => ?absent, fun h => ?degenerate, fun hin hw hh hout => ?overflow⟩
  case produced =>
    refine ⟨_, exec_encode s, ?_⟩
    rw [hresult hin hw hh]
    exact complete_emitOut_sizeEffects hout false
  case absent => exact exec_encode_of_error (encodeResult_of_absent (by simp [henc]) hin)
  case degenerate => exact exec_encode_of_error (encodeResult_of_degenerate henc h)
  case overflow => exact exec_encode_of_error ((hresult hin hw hh).trans (emitOut_overflows hout))

/-! ### ENC = 1 and ENC = 2, the frame of the packed bytes (46_encode_pipeline.md R263, R264) -/

section
variable {s : State} {z : Bool} {d : Str} (henc : s.enc = framingKind z)
include henc

theorem encodeFrame_absent (hin : s.inSize.toNat < s.pixelBytes) :
    ∃ t, exec .encode s = .next t ∧ FailedWith .invalidInput (sat32 s.pixelBytes) s t :=
  exec_encode_of_error (encodeResult_of_absent (by cases z <;> simp [henc, framingKind]) hin)

variable (hin : s.pixelBytes ≤ s.inSize.toNat)
include hin

theorem encodeResult_of_framing_fits : encodeResult s = frameResult s z s.packedBytes (sizeEffects s) := by
  rw [encodeResult_of_framing henc, withPixelRegion_fits hin]

theorem encodeResult_of_payload (hpayload : payloadBytes s z s.packedBytes = .bytes d) :
    encodeResult s = emitOut s (frameText z (base64 d)) (sizeEffects s ++ [.crc (crc16 (base64 d))]) := by
  rw [encodeResult_of_framing_fits henc hin, frameResult_of_bytes hpayload]

/-- The frame in OUT, the size results exact in their registers, and CRC over the Base64 text alone. -/
theorem encodeFrame_produced (hpayload : payloadBytes s z s.packedBytes = .bytes d)
    (hout : (frameText z (base64 d)).length ≤ s.outSize.toNat) :
    ∃ t, exec .encode s = .next t ∧ Produced (frameText z (base64 d)) s t ∧
      t.bytesPerRow.toNat = bpr s.width.toNat ∧
      t.totalBytes.toNat = totalBytesOf s.width.toNat s.height.toNat ∧ t.crc = crc16 (base64 d) := by
  refine ⟨_, exec_encode s, ?_⟩
  rw [encodeResult_of_payload henc hin hpayload]
  refine ⟨complete_emit_produced (by simp [sizeEffects]) hout, ?_⟩
  rw [emitOut_fits hout]
  exact ⟨bpr_toNat_word s.width, totalBytesOf_toNat_word s.width s.height, rfl⟩

theorem encodeFrame_outputOverflow (hpayload : payloadBytes s z s.packedBytes = .bytes d)
    (hout : s.outSize.toNat < (frameText z (base64 d)).length) :
    ∃ t, exec .encode s = .next t ∧ FailedWith .outputOverflow (sat32 (frameText z (base64 d)).length) s t :=
  exec_encode_of_error ((encodeResult_of_payload henc hin hpayload).trans (emitOut_overflows hout))

end

/-- Settles O34, check by check: the payload is the packed bytes themselves. -/
theorem encodeB64FollowsItsRule : Obligations.EncodeB64FollowsItsRule := fun s henc =>
  have hkind : s.enc = framingKind false := henc
  have hpayload := payloadBytes_false s s.packedBytes
  ⟨fun hin hout => encodeFrame_produced hkind hin hpayload hout, fun hin => encodeFrame_absent hkind hin,
    fun hin hout => encodeFrame_outputOverflow hkind hin hpayload hout⟩

/-- Settles O35, check by check: the payload is what the engine answers to the packed bytes. -/
theorem encodeZ64FollowsItsRule : Obligations.EncodeZ64FollowsItsRule := by
  intro s henc
  have hkind : s.enc = framingKind true := henc
  refine ⟨fun d hin hanswer hout => ?produced, fun hin => ?absent, fun hin hanswer => ?failure,
    fun d hin hanswer hout => ?overflow, fun hin hanswer => ?noAnswer⟩
  case produced => exact encodeFrame_produced hkind hin hanswer hout
  case absent => exact encodeFrame_absent hkind hin
  case failure =>
    exact exec_encode_of_error
      ((encodeResult_of_framing_fits hkind hin).trans (frameResult_of_failure (z := true) hanswer _))
  case overflow => exact encodeFrame_outputOverflow hkind hin hanswer hout
  case noAnswer =>
    rw [exec_encode, encodeResult_of_framing_fits hkind hin, frameResult_of_noAnswer (z := true) hanswer]
    rfl

end Sys2Proof.Machine
end

section
/-! SUPPORT. The middle field of a frame in OUT (46_encode_pipeline.md R266): a framing command that completes with OK has its
frame in OUT, and the field between the frame's second and third colon decodes to the bytes that were framed. -/

namespace Sys2Proof.Machine

/-! ### Results with code OK -/

/-- A completion with OK and no request outstanding is that of a result with effects (40_command_protocol.md R114). -/
theorem exists_effects_of_complete_ok {s : State} {keepsOut : Bool} {r : CmdResult} (hr : r.Legal s)
    (hreq : (s.complete keepsOut r).deflateReq = none) (hcode : (s.complete keepsOut r).errCode = .ok) :
    ∃ es, r = .ok es := by
  cases r with
  | ok es => exact ⟨es, rfl⟩
  | error code info => exact absurd hcode hr
  | waiting raw => cases hreq

section
variable {s : State} {es : List Effect}

theorem withInput_ok {k : Str → CmdResult} (h : withInput s k = .ok es) : k (s.inString s.inLen.toNat) = .ok es := by
  rcases Nat.lt_or_ge s.inSize.toNat s.inLen.toNat with hsize | hsize
  · rw [withInput_absent hsize] at h; cases h
  · rwa [withInput_fits hsize] at h

theorem withPixelRegion_ok {k : CmdResult} (h : withPixelRegion s k = .ok es) : k = .ok es := by
  rcases Nat.lt_or_ge s.inSize.toNat s.pixelBytes with hsize | hsize
  · rw [withPixelRegion_absent hsize] at h; cases h
  · rwa [withPixelRegion_fits hsize] at h

theorem emitOut_ok {p : Str} {more : List Effect} (h : emitOut s p more = .ok es) : p.length ≤ s.outSize.toNat := by
  rcases Nat.lt_or_ge s.outSize.toNat p.length with hsize | hsize
  · rw [emitOut_overflows hsize] at h; cases h
  · exact hsize

/-- A frame's result has effects when the payload is there and its frame fits in OUT (44_binary_framer.md R211, R225). -/
theorem frameResult_ok {z : Bool} {raw : Str} {more : List Effect} (h : frameResult s z raw more = .ok es) :
    ∃ d, payloadBytes s z raw = .bytes d ∧ (frameText z (base64 d)).length ≤ s.outSize.toNat := by
  cases hpayload : payloadBytes s z raw with
  | bytes d =>
    rw [frameResult_of_bytes hpayload] at h
    exact ⟨d, rfl, emitOut_ok h⟩
  | failure => rw [frameResult_of_failure hpayload] at h; cases h
  | noAnswer => rw [frameResult_of_noAnswer hpayload] at h; cases h

end

/-! ### The field between the second and the third colon (44_binary_framer.md R225) -/

/-- OUT between the five characters of the tag and the five of the checksum. -/
def State.middleField (t : State) : Str := (t.outString (t.outLen.toNat - 5)).drop 5

theorem Memory.readBytes_eq_take (m : Memory) (a : Nat) {n k : Nat} (h : n ≤ k) :
    m.readBytes a n = (m.readBytes a k).take n := by
  induction n generalizing a k with
  | zero => rfl
  | succ n ih =>
    cases k with
    | zero => omega
    | succ k => rw [Memory.readBytes, Memory.readBytes, List.take_succ_cons, ← ih (a + 1) (by omega)]

theorem middleField_of_produced {s t : State} {z : Bool} {b : Str} (h : Produced (frameText z b) s t) :
    t.middleField = b := by
  obtain ⟨-, hlen, hout, -⟩ := h
  have hfield : t.outLen.toNat - 5 = 5 + b.length := by rw [hlen, length_frameText]; omega
  have hprefix : t.outString (5 + b.length) = (frameText z b).take (5 + b.length) := by
    rw [State.outString, Memory.readBytes_eq_take _ _ (k := (frameText z b).length) (by rw [length_frameText]; omega)]
    exact congrArg _ hout
  rw [State.middleField, hfield, hprefix, List.drop_take, drop_frameText, Nat.add_sub_cancel_left]
  exact List.take_left' rfl

/-- A frame that completes decodes to its payload, whatever other registers its command writes. -/
theorem unbase64_middleField {s : State} {z keepsOut : Bool} {raw : Str} {more es : List Effect}
    (hmore : ∀ e ∈ more, (∃ n, e = .bytesPerRow n) ∨ (∃ n, e = .totalBytes n) ∨ (∃ c, e = .crc c))
    (h : frameResult s z raw more = .ok es) :
    ∃ d, payloadBytes s z raw = .bytes d ∧
      unbase64 (s.complete keepsOut (frameResult s z raw more)).middleField = some d := by
  obtain ⟨d, hpayload, hfits⟩ := frameResult_ok h
  refine ⟨d, hpayload, ?_⟩
  rw [frameResult_of_bytes hpayload, middleField_of_produced (complete_emit_produced ?_ hfits)]
  · exact unbase64_base64 d
  · exact List.forall_mem_append.2 ⟨hmore, by simp⟩

/-! ### The commands that frame -/

section
variable {s : State} {z : Bool}

theorem frameCommand_middleField {raw : Str} (hhex : hexToBytes (s.inString s.inLen.toNat) = .bytes raw)
    (hreq : (s.complete false (frameCommandResult s z)).deflateReq = none)
    (hcode : (s.complete false (frameCommandResult s z)).errCode = .ok) :
    ∃ d, payloadBytes s z raw = .bytes d ∧
      unbase64 (s.complete false (frameCommandResult s z)).middleField = some d := by
  obtain ⟨es, hes⟩ := exists_effects_of_complete_ok (frameCommandResult_legal s z) hreq hcode
  have hframe := withInput_ok hes
  rw [hhex] at hframe
  rw [hes, ← hframe]
  exact unbase64_middleField (by simp) hframe

theorem encodeFrame_middleField (henc : s.enc = framingKind z)
    (hreq : (s.complete false (encodeResult s)).deflateReq = none)
    (hcode : (s.complete false (encodeResult s)).errCode = .ok) :
    ∃ d, payloadBytes s z s.packedBytes = .bytes d ∧
      unbase64 (s.complete false (encodeResult s)).middleField = some d := by
  obtain ⟨es, hes⟩ := exists_effects_of_complete_ok (encodeResult_legal s) hreq hcode
  have hframe := withPixelRegion_ok ((encodeResult_of_framing henc).symm.trans hes)
  rw [hes, ← hframe]
  exact unbase64_middleField (by simp [sizeEffects]) hframe

end

/-- Settles O58, by the two forms of framing command and the two kinds of payload. -/
theorem framesDecodeToTheirBytes : Obligations.FramesDecodeToTheirBytes := by
  intro i s t hexec hreq hcode
  refine ⟨?frameB64, ?frameZ64, ?encodeB64, ?encodeZ64⟩
  case frameB64 =>
    rintro raw rfl hhex
    obtain rfl := Host.Outcome.next.inj ((exec_frameB64 s).symm.trans hexec)
    obtain ⟨d, hpayload, hmiddle⟩ := frameCommand_middleField hhex hreq hcode
    obtain rfl := DeflateAnswer.bytes.inj ((payloadBytes_false s raw).symm.trans hpayload)
    exact hmiddle
  case frameZ64 =>
    rintro raw rfl hhex
    obtain rfl := Host.Outcome.next.inj ((exec_frameZ64 s).symm.trans hexec)
    exact frameCommand_middleField hhex hreq hcode
  case encodeB64 =>
    rintro rfl henc
    obtain rfl := Host.Outcome.next.inj ((exec_encode s).symm.trans hexec)
    obtain ⟨d, hpayload, hmiddle⟩ := encodeFrame_middleField (z := false) henc hreq hcode
    obtain rfl := DeflateAnswer.bytes.inj ((payloadBytes_false s s.packedBytes).symm.trans hpayload)
    exact hmiddle
  case encodeZ64 =>
    rintro rfl henc
    obtain rfl := Host.Outcome.next.inj ((exec_encode s).symm.trans hexec)
    exact encodeFrame_middleField (z := true) henc hreq hcode

end Sys2Proof.Machine
end

section
/-! SUPPORT. Errors and the interrupt (60_exceptions.md): every step answers a next state, an illegal word and an erring command
complete by the one error completion, the codes each command can raise, and which steps raise irq. -/

namespace Sys2Proof.Machine

/-! ### Every step answers a next state (60_exceptions.md R280, R292, R295) -/

/-- The sequencer leaves the state alone, runs a command or completes an illegal word; none of them stops ZRE. -/
theorem exists_sequencerTurn_eq_next (s : State) : ∃ t, sequencerTurn s = .next t := by
  rcases sequencerTurn_cases s with ⟨-, hturn⟩ | ⟨-, -, i, -, hturn⟩ | ⟨-, -, -, -, hturn⟩
  · exact ⟨_, hturn⟩
  · obtain ⟨keepsOut, r, hexec⟩ := exec_eq_complete i s
    exact ⟨_, hturn.trans hexec⟩
  · exact ⟨_, hturn⟩

/-- Settles O7, by the kind of input that is next. -/
theorem stepAlwaysAnswersNext : Obligations.StepAlwaysAnswersNext := by
  intro s
  match hin : s.inputs with
  | [] =>
    rw [step_of_sequencer (.inr ⟨hin, rfl⟩)]
    exact exists_sequencerTurn_eq_next _
  | .sequencer :: rest =>
    rw [step_of_sequencer (.inl hin)]
    exact exists_sequencerTurn_eq_next _
  | .host x :: rest => exact ⟨_, step_of_host hin⟩
  | .resetPin level :: rest => exact ⟨_, step_of_resetPin hin⟩

/-! ### Illegal words (60_exceptions.md R284) -/

/-- A reserved opcode or nonzero reserved bits make a word illegal (30_encoding.md R94). -/
theorem exists_decode_eq_illegal {w : Word} (h : 8 ≤ (cmdOp w).toNat ∨ cmdRsv w ≠ 0) : ∃ why, decode w = .illegal why := by
  by_cases hrsv : cmdRsv w = 0
  · exact ⟨_, decode_of_reserved_opcode hrsv (h.resolve_right (not_not.2 hrsv))⟩
  · exact ⟨_, decode_of_rsv_ne_zero hrsv⟩

theorem sequencerTurn_of_illegal {s : State} {why : IllegalWhy} (hbusy : s.phase = .busy) (hr : s.rstN = true)
    (hcmd : decode s.cmd = .illegal why) : sequencerTurn s = .next s.completeIllegal := by
  simp [sequencerTurn, busy_of_busy hbusy, hr, hcmd]

/-- Settles O5: the turn is the error completion that keeps OUT, and taking it off the schedule leaves the word as it was. -/
theorem illegalWordCompletesWithItsWord : Obligations.IllegalWordCompletesWithItsWord := by
  intro s rest hword hbusy hr hturn
  obtain ⟨why, hcmd⟩ := exists_decode_eq_illegal hword
  refine ⟨({ s with inputs := rest } : State).completeIllegal, ?_, ?_, ?_⟩
  · rw [step_of_sequencer hturn]
    exact sequencerTurn_of_illegal hbusy hr hcmd
  · exact State.complete_error_failedWith _ true .illegalCommand s.cmd
  · exact State.complete_error_keeps_out _ .illegalCommand s.cmd

/-! ### Errors leave no partial result (60_exceptions.md R290) -/

/-- A completion with an error code and no request outstanding is that of an error (40_command_protocol.md R114). -/
theorem exists_error_of_complete {s : State} {keepsOut : Bool} {r : CmdResult}
    (hreq : (s.complete keepsOut r).deflateReq = none) (hcode : (s.complete keepsOut r).errCode ≠ .ok) :
    ∃ code info, r = .error code info := by
  cases r with
  | ok es => exact absurd rfl hcode
  | error code info => exact ⟨code, info, rfl⟩
  | waiting raw => cases hreq

/-- Settles O38: such a command is an error completion, and that of CRC16 keeps OUT. -/
theorem errorsLeaveNoPartialResult : Obligations.ErrorsLeaveNoPartialResult := by
  intro i s t hexec hreq hcode
  obtain ⟨r, -, hx⟩ := exec_eq_complete_within i s
  obtain rfl := Host.Outcome.next.inj (hx.symm.trans hexec)
  obtain ⟨code, info, rfl⟩ := exists_error_of_complete hreq hcode
  refine ⟨State.complete_error_failedWith s _ code info, ?_⟩
  rintro rfl
  exact State.complete_error_keeps_out s code info

/-! ### The codes each command can raise (60_exceptions.md R281) -/

/-- A result that is an error only with one of the codes given. -/
def CmdResult.RaisesOnly (codes : List ErrCode) : CmdResult → Prop
  | .ok _ => True
  | .error code _ => code ∈ codes
  | .waiting _ => True

section
variable {codes : List ErrCode} {s : State}

theorem withPixelRegion_raisesOnly {k : CmdResult} (hinput : .invalidInput ∈ codes) (hk : k.RaisesOnly codes) :
    (withPixelRegion s k).RaisesOnly codes := by
  rcases Nat.lt_or_ge s.inSize.toNat s.pixelBytes with h | h
  · rwa [withPixelRegion_absent h]
  · rwa [withPixelRegion_fits h]

theorem withInput_raisesOnly {k : Str → CmdResult} (hinput : .invalidInput ∈ codes) (hk : ∀ t, (k t).RaisesOnly codes) :
    (withInput s k).RaisesOnly codes := by
  rcases Nat.lt_or_ge s.inSize.toNat s.inLen.toNat with h | h
  · rwa [withInput_absent h]
  · rw [withInput_fits h]
    exact hk _

theorem emitOut_raisesOnly (hoverflow : .outputOverflow ∈ codes) (p : Str) (more : List Effect) :
    (emitOut s p more).RaisesOnly codes := by
  rcases Nat.lt_or_ge s.outSize.toNat p.length with h | h
  · rwa [emitOut_overflows h]
  · rw [emitOut_fits h]
    trivial

/-- Only a frame that asks the engine can fail with DEFLATE_ERROR (44_binary_framer.md R211, R212). -/
theorem frameResult_raisesOnly {z : Bool} (hdeflate : z = true → .deflateError ∈ codes) (hoverflow : .outputOverflow ∈ codes)
    (raw : Str) (more : List Effect) : (frameResult s z raw more).RaisesOnly codes := by
  cases hpayload : payloadBytes s z raw with
  | bytes d => rw [frameResult_of_bytes hpayload]; exact emitOut_raisesOnly hoverflow _ _
  | failure =>
    rw [frameResult_of_failure hpayload]
    cases z with
    | false => cases hpayload
    | true => exact hdeflate rfl
  | noAnswer => rw [frameResult_of_noAnswer hpayload]; trivial

theorem frameCommandResult_raisesOnly {z : Bool} (hinput : .invalidInput ∈ codes) (hhex : .invalidEncoding ∈ codes)
    (hdeflate : z = true → .deflateError ∈ codes) (hoverflow : .outputOverflow ∈ codes) :
    (frameCommandResult s z).RaisesOnly codes := by
  refine withInput_raisesOnly hinput fun t => ?_
  split
  · exact hhex
  · exact frameResult_raisesOnly hdeflate hoverflow _ _

end

theorem packResult_raisesOnly (s : State) : (packResult s).RaisesOnly (codesOf .pack) :=
  withPixelRegion_raisesOnly (by decide) (emitOut_raisesOnly (by decide) _ _)

theorem compressResult_raisesOnly (s : State) : (compressResult s).RaisesOnly (codesOf .compress) := by
  refine withInput_raisesOnly (by decide) fun t => ?_
  have hdegenerate : ErrCode.degenerateRaster ∈ codesOf .compress := by decide
  have hhex : ErrCode.invalidEncoding ∈ codesOf .compress := by decide
  dsimp only
  split
  · exact hdegenerate
  · split
    · exact hhex
    · exact emitOut_raisesOnly (by decide) _ _

theorem base64Result_raisesOnly (s : State) : (base64Result s).RaisesOnly (codesOf .base64) :=
  withInput_raisesOnly (by decide) fun _ => emitOut_raisesOnly (by decide) _ _

theorem crc16Result_raisesOnly (s : State) : (crc16Result s).RaisesOnly (codesOf .crc16) :=
  withInput_raisesOnly (by decide) fun _ => trivial

theorem encodeHex_raisesOnly (s : State) : (encodeHex s).RaisesOnly (codesOf .encode) := by
  have hdegenerate : ErrCode.degenerateRaster ∈ codesOf .encode := by decide
  unfold encodeHex
  split
  · exact hdegenerate
  · exact emitOut_raisesOnly (by decide) _ _

/-- ENCODE frames packed bytes and not text from the host, so no kind meets bad hex (46_encode_pipeline.md R263). -/
theorem encodeResult_raisesOnly (s : State) : (encodeResult s).RaisesOnly (codesOf .encode) := by
  have hinput : ErrCode.invalidInput ∈ codesOf .encode := by decide
  have hframe (z : Bool) : (frameResult s z s.packedBytes (sizeEffects s)).RaisesOnly (codesOf .encode) :=
    frameResult_raisesOnly (fun _ => by decide) (by decide) _ _
  cases henc : s.enc with
  | fourth =>
    have hkind : ErrCode.unsupportedEncodingKind ∈ codesOf .encode := by decide
    rw [encodeResult_of_fourth henc]
    exact hkind
  | hexCompressed =>
    rw [encodeResult_of_hex henc]
    exact withPixelRegion_raisesOnly hinput (encodeHex_raisesOnly s)
  | base64 =>
    rw [encodeResult_of_framing (z := false) henc]
    exact withPixelRegion_raisesOnly hinput (hframe false)
  | base64Deflate =>
    rw [encodeResult_of_framing (z := true) henc]
    exact withPixelRegion_raisesOnly hinput (hframe true)

/-- Every command answers the completion of a result that raises only the command's codes. -/
theorem exec_eq_complete_raisesOnly (i : Instr) (s : State) :
    ∃ k r, r.RaisesOnly (codesOf i) ∧ exec i s = .next (s.complete k r) := by
  cases i with
  | nop => exact ⟨true, .ok [], trivial, rfl⟩
  | encode => exact ⟨false, _, encodeResult_raisesOnly s, rfl⟩
  | pack => exact ⟨false, _, packResult_raisesOnly s, rfl⟩
  | compress => exact ⟨false, _, compressResult_raisesOnly s, rfl⟩
  | frameB64 =>
    exact ⟨false, _, frameCommandResult_raisesOnly (by decide) (by decide) (fun h => Bool.noConfusion h) (by decide), rfl⟩
  | frameZ64 =>
    exact ⟨false, _, frameCommandResult_raisesOnly (by decide) (by decide) (fun _ => by decide) (by decide), rfl⟩
  | base64 => exact ⟨false, _, base64Result_raisesOnly s, rfl⟩
  | crc16 => exact ⟨true, _, crc16Result_raisesOnly s, rfl⟩

theorem ok_mem_codesOf (i : Instr) : ErrCode.ok ∈ codesOf i := by cases i <;> decide

/-- Settles O39: effects complete with OK, an error with a code the command may raise, and a wait leaves a request outstanding. -/
theorem commandsRaiseOnlyTheirCodes : Obligations.CommandsRaiseOnlyTheirCodes := by
  intro i s t hexec hreq
  obtain ⟨k, r, hr, hx⟩ := exec_eq_complete_raisesOnly i s
  obtain rfl := Host.Outcome.next.inj (hx.symm.trans hexec)
  cases r with
  | ok es => exact ok_mem_codesOf i
  | error code info => exact hr
  | waiting raw => cases hreq

/-! ### The interrupt (60_exceptions.md R293, R294) -/

theorem irq_iff (s : State) : s.irq = true ↔ s.irqEn = true ∧ s.done = true := by simp [State.irq]

theorem AtResetValues.irq_eq_false {t : State} (h : AtResetValues t) : t.irq = false := by
  obtain ⟨⟨hirqEn, -⟩, -⟩ := h
  simp [State.irq, hirqEn]

/-- A CTRL write that leaves irq at 1 is no soft reset; it sets IRQ_EN while DONE stands (10_state.md R25). -/
theorem writeCtrl_irq {s : State} {v : Word} (h : (s.writeCtrl v).irq = true) : s.done = true ∧ v.getLsbD 0 = true := by
  cases hsrst : v.getLsbD 1 with
  | true =>
    rw [writeCtrl_of_srst hsrst, (softReset_atResetValues s).irq_eq_false] at h
    cases h
  | false =>
    rw [writeCtrl_of_not_srst hsrst, irq_iff] at h
    exact h.symm

/-- Where irq is 1 after a register write, it was 1 before, or the write enabled it. -/
theorem writeReg_irq {s : State} {v : Word} {r : Reg} (h : (s.writeReg v r).irq = true) :
    s.irq = true ∨ (r = .ctrl ∧ s.done = true ∧ v.getLsbD 0 = true) := by
  cases r with
  | ctrl => exact .inr ⟨rfl, writeCtrl_irq h⟩
  | cmd =>
    obtain ⟨-, hdone⟩ := (irq_iff _).1 h
    cases hdone
  | status =>
    obtain ⟨hirqEn, hdone⟩ := (irq_iff _).1 h
    exact .inl ((irq_iff s).2 ⟨hirqEn, (Bool.and_eq_true_iff.1 hdone).1⟩)
  | config | width | height | inLen => exact .inl h
  | id | bytesPerRow | totalBytes | outLen | crc | errInfo | inSize | outSize | reserved => exact .inl h

theorem access_irq {s : State} {x : Access} (h : (s.access x).irq = true) :
    s.irq = true ∨ (s.done = true ∧ ∃ v, x = .write .w32 0x04 v ∧ v.getLsbD 0 = true) := by
  rcases access_cases s x with
    ⟨reply, hx⟩ | ⟨w, hx⟩ | ⟨-, -, hx⟩ | ⟨addr, v, r, rfl, ha, -, hx⟩ | ⟨-, m, hx⟩
  · rw [hx] at h; exact .inl h
  · rw [hx] at h; exact .inl h
  · rw [hx] at h; exact .inl h
  · rw [hx] at h
    rcases writeReg_irq (s := s) h with hirq | ⟨rfl, hdone, hbit⟩
    · exact .inl hirq
    · exact .inr ⟨hdone, v, by rw [ha.eq_of_ctrl], hbit⟩
  · rw [hx] at h; exact .inl h

/-- Driving `rst_n` changes nothing, or performs a reset that clears IRQ_EN (70_reset_and_hazards.md R310). -/
theorem driveReset_irq {s : State} {level : Bool} (h : (s.driveReset level).irq = true) : s.irq = true := by
  unfold State.driveReset at h
  split at h
  · exact h
  · cases h

/-- No sequencer's turn writes an input (60_exceptions.md R290). -/
theorem sequencerTurn_sameInputs {s t : State} (h : sequencerTurn s = .next t) : SameInputs s t := by
  rcases sequencerTurn_cases s with ⟨-, hturn⟩ | ⟨-, -, i, -, hturn⟩ | ⟨-, -, -, -, hturn⟩
  · obtain rfl := Host.Outcome.next.inj (hturn.symm.trans h)
    exact SameInputs.refl s
  · exact commandsLeaveInputsAlone i s t (hturn.symm.trans h)
  · obtain rfl := Host.Outcome.next.inj (hturn.symm.trans h)
    exact State.errorCompletion_sameInputs s true .illegalCommand s.cmd

/-- Where irq is 1 after the sequencer's turn, it was 1 before, or a command completed with IRQ_EN = 1. -/
theorem sequencerTurn_irq {s t : State} (h : sequencerTurn s = .next t) (hirq : t.irq = true) :
    s.irq = true ∨ (s.phase = .busy ∧ t.phase = .idle ∧ s.irqEn = true) := by
  obtain ⟨⟨hkept, -⟩, -⟩ := sequencerTurn_sameInputs h
  obtain ⟨hirqEn, hdone⟩ := (irq_iff t).1 hirq
  rw [hkept] at hirqEn
  rcases sequencerTurn_quiet_or_completes h with ⟨-, -, hraise, -⟩ | ⟨hbusy, -, hphase, -⟩
  · have hdone' : s.done = true := by
      by_contra hne
      simp [hraise (eq_false_of_ne_true hne)] at hdone
    exact .inl ((irq_iff s).2 ⟨hirqEn, hdone'⟩)
  · exact .inr ⟨hbusy, hphase, hirqEn⟩

/-- Settles O22, by the three kinds of step: irq stood before each, but for a CTRL write that enables it and a completion. -/
theorem irqRisesOnlyAtCompletionOrEnable : Obligations.IrqRisesOnlyAtCompletionOrEnable := by
  intro s t hstep hlow hirq
  have hnot : s.irq ≠ true := ne_true_of_eq_false hlow
  rcases step_cases hstep with ⟨x, rest, hin, rfl⟩ | ⟨level, rest, -, rfl⟩ | ⟨rest, -, hturn⟩
  · obtain ⟨hdone, v, rfl, hbit⟩ := (access_irq hirq).resolve_left hnot
    have hirqEn : s.irqEn = false := eq_false_of_ne_true fun hen => hnot ((irq_iff s).2 ⟨hen, hdone⟩)
    exact .inr ⟨hirqEn, hdone, v, rest, hin, hbit⟩
  · exact absurd (driveReset_irq hirq) hnot
  · exact .inl ((sequencerTurn_irq hturn hirq).resolve_left hnot)

end Sys2Proof.Machine
end

section
/-! SUPPORT. The resets (70_reset_and_hazards.md): what the soft reset and the reset pin leave alone beside the reset values, and
the host port while the pin is at 0. -/

namespace Sys2Proof.Machine

/-! ### The soft reset (70_reset_and_hazards.md R312) -/

/-- Beside the registers a soft reset touches neither the pin, the engine and the schedule, nor IN. -/
theorem softReset_frame (s : State) : s.softReset.rstN = s.rstN ∧ s.softReset.engine = s.engine ∧
    s.softReset.inputs = s.inputs ∧ s.softReset.inRam = s.inRam := by
  cases hp : s.phase with
  | idle => simp [softReset_idle hp]
  | busy => simp [softReset_busy hp]

/-- Only an aborted command loses OUT (70_reset_and_hazards.md R311). -/
theorem softReset_sameOut {s : State} (h : s.phase = .idle) : SameOut s s.softReset := by
  rw [softReset_idle h]
  exact fun _ => rfl

theorem access_writeCtrl_of_srst {s : State} (hr : s.rstN = true) {v : Word} (h : v.getLsbD 1 = true) :
    s.access (.write .w32 0x04 v) = s.softReset.answer .done := by
  rw [access_writeCtrl hr, writeCtrl_of_srst h]

/-- Settles O12: the write is a soft reset answered as done, and the pin is still released for a later write. -/
theorem softResetRestoresRegisters : Obligations.SoftResetRestoresRegisters := by
  intro s v hr hsrst
  obtain ⟨hpin, hengine, hinputs, hin⟩ := softReset_frame s
  obtain ⟨hinSize, houtSize⟩ := softReset_sizes s
  have hreleased : (s.softReset.answer .done).rstN = true := hpin.trans hr
  have hlater : ((s.softReset.answer .done).access (.write .w32 0x04 0x00000001)).irqEn = true := by
    rw [access_writeCtrl_of_not_srst hreleased (by decide)]
    rfl
  rw [access_writeCtrl_of_srst hr hsrst]
  exact ⟨softReset_atResetValues s, hinSize, houtSize, rfl, hreleased, hengine, hinputs, ramBytes_of_eq hin,
    softReset_sameOut, hlater⟩

/-! ### The reset pin (70_reset_and_hazards.md R310) -/

/-- The pin at 0, and its release, are a hardware reset that leaves the pin at the driven level. -/
theorem driveReset_of_reset {s : State} {level : Bool} (h : level = false ∨ s.rstN = false) :
    s.driveReset level = { s.hardwareReset with rstN := level } :=
  if_neg (by rcases h with h | h <;> simp [h])

/-- Settles O13, from the hardware reset. -/
theorem hardwareResetRestoresRegisters : Obligations.HardwareResetRestoresRegisters := by
  intro s level h
  rw [driveReset_of_reset h]
  exact ⟨hardwareReset_atResetValues s, (hardwareReset_atResetValues s).irq_eq_false, rfl, rfl, rfl, rfl, rfl⟩

/-- Settles O15: in reset every access is answered with a bus error. -/
theorem accessInResetIsBusError : Obligations.AccessInResetIsBusError := fun _ x h => access_in_reset h x

end Sys2Proof.Machine
end
